-- ==== Sys2Proof/Word.lean ====
section
/-! DEFINITION. The bit-vector types of the block's words and the fixed sets of names the spec numbers
(interrupt sources, configuration registers, response codes). -/

namespace Sys2Proof

/-- A bus data word and a register, 32 bits, accessed as a whole (20_memory.md R52, 30_encoding.md R70, R79). -/
abbrev Word := BitVec 32

/-- A port register or pin pattern, one bit per pin. `PORT_W` is at most 16 (00_scope.md R4); a narrower
port holds zeros above `PORT_W` (log 7). -/
abbrev Port := BitVec 16

/-- The 47-bit transaction word `X` = {`SZ`, `WR`, `OFF`, `DATA`} (30_encoding.md R70). -/
abbrev Xact := BitVec 47

/-- A physical location (port or bank), 3 bits (10_state.md R18, R38). -/
abbrev Loc := BitVec 3

/-- An index into the descriptor table, 8 bits (30_encoding.md R72). -/
abbrev DescIdx := BitVec 8

/-- The four interrupt sources, numbered 0 to 3 in this order (10_state.md R21, 60_exceptions.md R207). -/
inductive Src where
  | pulse | reset | debounce | change
deriving DecidableEq, Repr

/-- The configuration registers, numbered 0 to 3 in this order (10_state.md R37). -/
inductive CfgReg where
  | pwmOff | pwmMax | pwmMin | debounce
deriving DecidableEq, Repr

/-- The four ways a transaction can fail (60_exceptions.md R200). -/
inductive Err where
  | cfgErr | stateErr | badDesc | busErr
deriving DecidableEq, Repr

/-- The response of a transaction: `OK` or one of the errors (00_scope.md R8, 60_exceptions.md R200). -/
inductive Resp where
  | ok
  | err (e : Err)
deriving DecidableEq, Repr

end Sys2Proof
end

