-- ==== Sys2Proof/Syntax.lean ====
section
/-! DEFINITION. The operations of the block: one constructor per row of spec/opcode_table.json
(30_encoding.md R80), with the operand fields of its format (R71, R72) and nothing else. -/

namespace Sys2Proof

/-- One operation with its operands. An operand is the raw unsigned field of 30_encoding.md R72; bits a
format marks as ignored (R74) are not part of it. -/
inductive Instr where
  -- Pulse Timer (42_pulse_timer.md)
  | ptConfigure (p : Word)
  | ptStart
  | ptStop
  | ptStatus
  -- Reset Timer (43_reset_timer.md)
  | rtArm (d : Word)
  | rtDisarm
  | rtStatus
  -- Spindle PWM Timer (44_spindle_pwm.md)
  | vstEnable (b : Bool)
  | vstSetDuty (v : Word)
  | vstIsEnabled
  | vstStatus
  -- Debounce Timer (45_debounce_timer.md)
  | dtArm
  | dtDisarm
  | dtStatus
  -- GPIO Engine, operations with a write (41_gpio_engine.md)
  | gpInit (desc : DescIdx)
  | gpWrite (desc : DescIdx) (val : BitVec 16)
  | gpWritePin (desc : DescIdx) (val : BitVec 16)
  | gpSetPullup (desc : DescIdx) (val : BitVec 16)
  | gpChangeInt (desc : DescIdx) (val : BitVec 16)
  -- System operations (46_system_ops.md)
  | cbRegister (src : Src) (handle : Word)
  | cbRead (src : Src)
  | irqPending
  | irqTake (src : Src)
  | irqDone (src : Src)
  | cfgSet (k : CfgReg) (v : Word)
  | cfgGet (k : CfgReg)
  | errStatus
  | errInfo
  | rawDir (loc : Loc)
  | rawOut (loc : Loc)
  | rawIn (loc : Loc)
  | rawPue (loc : Loc)
  | rawPcmsk (loc : Loc)
  | invSet (loc : Loc) (m : Word)
  | invGet (loc : Loc)
  -- The descriptor windows (41_gpio_engine.md, 40_virtual_port_model.md)
  | gpRead (desc : DescIdx)
  | vpResolve (desc : DescIdx)
  | vpPol (desc : DescIdx)
deriving DecidableEq, Repr

end Sys2Proof
end

