-- ==== Sys2Proof/Decode.lean ====
section
/-! DEFINITION. The 47-bit transaction word (30_encoding.md R70): its fields, the operation map (R80) as a list of
rows, decoding as a total function of the word and of no state (R73), the encoder, and the host's view of the
decoder. The range checks of R73 step 4 need the parameters and stand in the meanings (log 13). -/

namespace Sys2Proof

/-- `SZ`, bits [46:45]. -/
def Xact.sz (x : Xact) : BitVec 2 := x.extractLsb' 45 2
/-- `WR`, bit [44]. -/
def Xact.wr (x : Xact) : BitVec 1 := x.extractLsb' 44 1
/-- `OFF`, bits [43:32]. -/
def Xact.off (x : Xact) : BitVec 12 := x.extractLsb' 32 12
/-- `DATA`, bits [31:0]. -/
def Xact.data (x : Xact) : Word := x.extractLsb' 0 32
/-- The 15 bits above `DATA`: {`SZ`, `WR`, `OFF`}. Every mask of the operation map is zero below them. -/
def Xact.header (x : Xact) : BitVec 15 := x.extractLsb' 32 15

/-- `X` = {`SZ`, `WR`, `OFF`, `DATA`} (30_encoding.md R70). -/
def Xact.pack (sz : BitVec 2) (wr : BitVec 1) (off : BitVec 12) (data : Word) : Xact := sz ++ wr ++ off ++ data

/-- Source number to source (60_exceptions.md R207). -/
def Src.ofBits (b : BitVec 2) : Src :=
  if b = 0 then .pulse else if b = 1 then .reset else if b = 2 then .debounce else .change

/-- Source to its number. -/
def Src.bits : Src → BitVec 2
  | .pulse => 0 | .reset => 1 | .debounce => 2 | .change => 3

/-- Configuration index to register (10_state.md R37). -/
def CfgReg.ofBits (b : BitVec 2) : CfgReg :=
  if b = 0 then .pwmOff else if b = 1 then .pwmMax else if b = 2 then .pwmMin else .debounce

/-- Configuration register to its index. -/
def CfgReg.bits : CfgReg → BitVec 2
  | .pwmOff => 0 | .pwmMax => 1 | .pwmMin => 2 | .debounce => 3

/-- `b` = DATA[0] (format `WB`). -/
def Xact.fieldB (x : Xact) : Bool := x.getLsbD 0
/-- `desc` = DATA[31:24] (format `WG`). -/
def Xact.fieldDesc (x : Xact) : DescIdx := x.extractLsb' 24 8
/-- `val` = DATA[15:0] (format `WG`). -/
def Xact.fieldVal (x : Xact) : BitVec 16 := x.extractLsb' 0 16
/-- `src` = DATA[1:0] (format `WS`). -/
def Xact.fieldSrc (x : Xact) : Src := Src.ofBits (x.extractLsb' 0 2)
/-- `idx` = OFF[3:2] (formats `WI` and `RI` on CB). -/
def Xact.idxSrc (x : Xact) : Src := Src.ofBits (x.extractLsb' 34 2)
/-- `idx` = OFF[3:2] (formats `WI` and `RI` on CFG). -/
def Xact.idxCfg (x : Xact) : CfgReg := CfgReg.ofBits (x.extractLsb' 34 2)
/-- `idx` = OFF[4:2] (formats `WI` and `RI` on INV and RAW.*). -/
def Xact.idxLoc (x : Xact) : Loc := x.extractLsb' 34 3
/-- `desc` = OFF[9:2] (format `RD`). -/
def Xact.winDesc (x : Xact) : DescIdx := x.extractLsb' 34 8

/-- One row of the operation map (30_encoding.md R80): its `match` and `mask` as 47-bit values and the operation
its fields make (R71). -/
structure OpRow where
  pattern : BitVec 47
  mask : BitVec 47
  build : Xact → Instr

/-- The operation map, row for row in the order of 30_encoding.md R80. -/
def opMap : List OpRow :=
  [ ⟨0x500000000000, 0x7FFF00000000, fun x => .ptConfigure x.data⟩
  , ⟨0x500400000000, 0x7FFF00000000, fun _ => .ptStart⟩
  , ⟨0x500800000000, 0x7FFF00000000, fun _ => .ptStop⟩
  , ⟨0x400C00000000, 0x7FFF00000000, fun _ => .ptStatus⟩
  , ⟨0x501000000000, 0x7FFF00000000, fun x => .rtArm x.data⟩
  , ⟨0x501400000000, 0x7FFF00000000, fun _ => .rtDisarm⟩
  , ⟨0x401800000000, 0x7FFF00000000, fun _ => .rtStatus⟩
  , ⟨0x502000000000, 0x7FFF00000000, fun x => .vstEnable x.fieldB⟩
  , ⟨0x502400000000, 0x7FFF00000000, fun x => .vstSetDuty x.data⟩
  , ⟨0x402800000000, 0x7FFF00000000, fun _ => .vstIsEnabled⟩
  , ⟨0x402C00000000, 0x7FFF00000000, fun _ => .vstStatus⟩
  , ⟨0x503000000000, 0x7FFF00000000, fun _ => .dtArm⟩
  , ⟨0x503400000000, 0x7FFF00000000, fun _ => .dtDisarm⟩
  , ⟨0x403800000000, 0x7FFF00000000, fun _ => .dtStatus⟩
  , ⟨0x504000000000, 0x7FFF00000000, fun x => .gpInit x.fieldDesc⟩
  , ⟨0x504400000000, 0x7FFF00000000, fun x => .gpWrite x.fieldDesc x.fieldVal⟩
  , ⟨0x504800000000, 0x7FFF00000000, fun x => .gpWritePin x.fieldDesc x.fieldVal⟩
  , ⟨0x504C00000000, 0x7FFF00000000, fun x => .gpSetPullup x.fieldDesc x.fieldVal⟩
  , ⟨0x505000000000, 0x7FFF00000000, fun x => .gpChangeInt x.fieldDesc x.fieldVal⟩
  , ⟨0x506000000000, 0x7FF300000000, fun x => .cbRegister x.idxSrc x.data⟩
  , ⟨0x406000000000, 0x7FF300000000, fun x => .cbRead x.idxSrc⟩
  , ⟨0x407000000000, 0x7FFF00000000, fun _ => .irqPending⟩
  , ⟨0x507400000000, 0x7FFF00000000, fun x => .irqTake x.fieldSrc⟩
  , ⟨0x507800000000, 0x7FFF00000000, fun x => .irqDone x.fieldSrc⟩
  , ⟨0x508000000000, 0x7FF300000000, fun x => .cfgSet x.idxCfg x.data⟩
  , ⟨0x408000000000, 0x7FF300000000, fun x => .cfgGet x.idxCfg⟩
  , ⟨0x40C000000000, 0x7FFF00000000, fun _ => .errStatus⟩
  , ⟨0x40C400000000, 0x7FFF00000000, fun _ => .errInfo⟩
  , ⟨0x410000000000, 0x7FE300000000, fun x => .rawDir x.idxLoc⟩
  , ⟨0x412000000000, 0x7FE300000000, fun x => .rawOut x.idxLoc⟩
  , ⟨0x414000000000, 0x7FE300000000, fun x => .rawIn x.idxLoc⟩
  , ⟨0x416000000000, 0x7FE300000000, fun x => .rawPue x.idxLoc⟩
  , ⟨0x418000000000, 0x7FE300000000, fun x => .rawPcmsk x.idxLoc⟩
  , ⟨0x51A000000000, 0x7FE300000000, fun x => .invSet x.idxLoc x.data⟩
  , ⟨0x41A000000000, 0x7FE300000000, fun x => .invGet x.idxLoc⟩
  , ⟨0x440000000000, 0x7C0300000000, fun x => .gpRead x.winDesc⟩
  , ⟨0x480000000000, 0x7C0300000000, fun x => .vpResolve x.winDesc⟩
  , ⟨0x4C0000000000, 0x7C0300000000, fun x => .vpPol x.winDesc⟩ ]

/-- Why the decoder refuses a word (30_encoding.md R73 steps 1 and 2, R75). The transaction then returns
`BUS_ERR`; the model goes on. -/
inductive Illegal where
  /-- `SZ` is not 2 (R75): the access is not 4 bytes wide. -/
  | badSize
  /-- `OFF[1:0]` is not 0 (R53). -/
  | misaligned
  /-- No row of the map matches (R57): an unassigned offset or the wrong kind of access. -/
  | unmapped
deriving DecidableEq, Repr

/-- The row a word selects (30_encoding.md R73 step 2). -/
def selectRow (x : Xact) : Option OpRow := opMap.find? (fun r => x &&& r.mask == r.pattern)

/-- Decoding of a transaction word (30_encoding.md R73 steps 1 to 3). -/
def decode (x : Xact) : Except Illegal Instr :=
  if x.sz ≠ 2 then .error .badSize
  else if x.off.extractLsb' 0 2 ≠ 0 then .error .misaligned
  else match selectRow x with
    | none => .error .unmapped
    | some r => .ok (r.build x)

/-- A write transaction `MemWrite(off, 4, v)` (30_encoding.md R70). -/
def Xact.write (off : BitVec 12) (v : Word) : Xact := Xact.pack 2 1 off v

/-- A read transaction `MemRead(off, 4)` (30_encoding.md R70). -/
def Xact.read (off : BitVec 12) : Xact := Xact.pack 2 0 off 0

/-- The data word of format `WG` (30_encoding.md R71): `desc` in [31:24], `val` in [15:0]. -/
def dataWG (desc : DescIdx) (val : BitVec 16) : Word := desc ++ (0#8 : BitVec 8) ++ val

/-- `base` + 4·`idx` for a 2-bit, 3-bit or 8-bit index (20_memory.md R51). -/
def offsetAt (base : BitVec 12) {n : Nat} (idx : BitVec n) : BitVec 12 := base + 4 * idx.setWidth 12

/-- The word of an operation, from the address map of 20_memory.md R51 and the formats of 30_encoding.md R71;
ignored bits are written as 0 (R74). -/
def encode : Instr → Xact
  | .ptConfigure p => .write 0x000 p
  | .ptStart => .write 0x004 0
  | .ptStop => .write 0x008 0
  | .ptStatus => .read 0x00C
  | .rtArm d => .write 0x010 d
  | .rtDisarm => .write 0x014 0
  | .rtStatus => .read 0x018
  | .vstEnable b => .write 0x020 ((BitVec.ofBool b).setWidth 32)
  | .vstSetDuty v => .write 0x024 v
  | .vstIsEnabled => .read 0x028
  | .vstStatus => .read 0x02C
  | .dtArm => .write 0x030 0
  | .dtDisarm => .write 0x034 0
  | .dtStatus => .read 0x038
  | .gpInit desc => .write 0x040 (dataWG desc 0)
  | .gpWrite desc val => .write 0x044 (dataWG desc val)
  | .gpWritePin desc val => .write 0x048 (dataWG desc val)
  | .gpSetPullup desc val => .write 0x04C (dataWG desc val)
  | .gpChangeInt desc val => .write 0x050 (dataWG desc val)
  | .cbRegister src handle => .write (offsetAt 0x060 src.bits) handle
  | .cbRead src => .read (offsetAt 0x060 src.bits)
  | .irqPending => .read 0x070
  | .irqTake src => .write 0x074 (src.bits.setWidth 32)
  | .irqDone src => .write 0x078 (src.bits.setWidth 32)
  | .cfgSet k v => .write (offsetAt 0x080 k.bits) v
  | .cfgGet k => .read (offsetAt 0x080 k.bits)
  | .errStatus => .read 0x0C0
  | .errInfo => .read 0x0C4
  | .rawDir loc => .read (offsetAt 0x100 loc)
  | .rawOut loc => .read (offsetAt 0x120 loc)
  | .rawIn loc => .read (offsetAt 0x140 loc)
  | .rawPue loc => .read (offsetAt 0x160 loc)
  | .rawPcmsk loc => .read (offsetAt 0x180 loc)
  | .invSet loc m => .write (offsetAt 0x1A0 loc) m
  | .invGet loc => .read (offsetAt 0x1A0 loc)
  | .gpRead desc => .read (offsetAt 0x400 desc)
  | .vpResolve desc => .read (offsetAt 0x800 desc)
  | .vpPol desc => .read (offsetAt 0xC00 desc)

/-- The `WR` bit of an operation (30_encoding.md R71, column WR): a write transaction or a read transaction. -/
def Instr.isWrite : Instr → Bool
  | .ptConfigure _ | .ptStart | .ptStop | .rtArm _ | .rtDisarm | .vstEnable _ | .vstSetDuty _ | .dtArm | .dtDisarm
  | .gpInit _ | .gpWrite _ _ | .gpWritePin _ _ | .gpSetPullup _ _ | .gpChangeInt _ _ | .cbRegister _ _ | .irqTake _
  | .irqDone _ | .cfgSet _ _ | .invSet _ _ => true
  | .ptStatus | .rtStatus | .vstIsEnabled | .vstStatus | .dtStatus | .cbRead _ | .irqPending | .cfgGet _ | .errStatus
  | .errInfo | .rawDir _ | .rawOut _ | .rawIn _ | .rawPue _ | .rawPcmsk _ | .invGet _ | .gpRead _ | .vpResolve _
  | .vpPol _ => false

/-- The operation the decoder reads from a word given as a number, bit 0 the least significant bit of `X`
(30_encoding.md R70, the numbering of spec/opcode_table.json). `X` has 47 bits; a number with a higher bit set
is no transaction (log 9). -/
def decodeTableWord (nbits w : Nat) : Option Instr :=
  if w % 2 ^ nbits < 2 ^ 47 then (decode (BitVec.ofNat 47 (w % 2 ^ nbits))).toOption else none

end Sys2Proof
end

