-- ==== Sys2Proof/Config.lean ====
section
/-! DEFINITION. What an implementation fixes: the parameters of 00_scope.md R4, the machine profile with its
descriptor table (10_state.md R18), and the host's open policy (60_exceptions.md R211). All are plain data:
State carries the parameters, so that a statement about every state is a statement about every parameter
value (log 1). The spec leaves no result of an operation undefined, so there is no free value here. -/

namespace Sys2Proof

/-- PinDescriptor or VirtualPortDescriptor (10_state.md R18, field `kind`: 0 and 1). -/
inductive Kind where
  | pin | group
deriving DecidableEq, Repr

/-- Direction of a descriptor (10_state.md R18, field `dir`: 0 and 1). -/
inductive Dir where
  | input | output
deriving DecidableEq, Repr

/-- One entry of the descriptor table (10_state.md R18). -/
structure Descriptor where
  valid : Bool
  kind : Kind
  dir : Dir
  loc : Loc
  bitpos : BitVec 4
  mask : Port
  pol : Port
deriving DecidableEq, Repr

/-- An index no name of the profile is bound to: `valid` is 0 (10_state.md R18). -/
def Descriptor.unbound : Descriptor :=
  { valid := false, kind := .pin, dir := .input, loc := 0, bitpos := 0, mask := 0, pol := 0 }

/-- What the machine profile selected at build time supplies (00_scope.md R4, rows `PROFILE.*`). -/
structure Profile where
  /-- `PROFILE.DESC[0 .. NDESC-1]`. -/
  desc : List Descriptor
  /-- `PROFILE.VST_PIN`: index of the pin descriptor the PWM output drives. -/
  vstPin : Nat
  /-- `PROFILE.INV[loc]`, the reset value of the invert mask of each location. -/
  inv : Vector Port 8
  pwmOff : Nat
  pwmMax : Nat
  pwmMin : Nat
  debounce : Nat
deriving DecidableEq, Repr

/-- The implementation parameters that the block reads (00_scope.md R4); those of the host are `HostPolicy`, those of the
platform `Platform`. -/
structure Params where
  ptW : Nat
  ptShifts : List Nat
  ptPeriodMin : Nat
  rtW : Nat
  rtShift : Nat
  vstW : Nat
  dtW : Nat
  portW : Nat
  nloc : Nat
  profile : Profile
deriving DecidableEq, Repr

/-- `NDESC`, the number of descriptor-table entries. -/
def Params.ndesc (p : Params) : Nat := p.profile.desc.length

/-- The test profile of 95_test_vectors.md section 1, with the default profile values of 00_scope.md R4
for `VST_W` = 8. DESIGN CHOICE (log 2), unsafe: the spec gives the table of State.reset no contents. -/
def Profile.vectors : Profile :=
  { desc :=
      [ { valid := true, kind := .group, dir := .output, loc := 0, bitpos := 0, mask := 0x1C, pol := 0 }
      , { valid := true, kind := .group, dir := .output, loc := 0, bitpos := 0, mask := 0xE0, pol := 0 }
      , { valid := true, kind := .group, dir := .input, loc := 1, bitpos := 0, mask := 0x0E, pol := 0 }
      , { valid := true, kind := .group, dir := .input, loc := 2, bitpos := 0, mask := 0x07, pol := 0 }
      , { valid := true, kind := .pin, dir := .output, loc := 3, bitpos := 3, mask := 0x08, pol := 0 }
      , { valid := true, kind := .pin, dir := .input, loc := 2, bitpos := 5, mask := 0x20, pol := 0x20 }
      , { valid := true, kind := .pin, dir := .output, loc := 1, bitpos := 0, mask := 0x01, pol := 0 } ]
      ++ List.replicate 9 Descriptor.unbound
    vstPin := 4
    inv := Vector.replicate 8 0
    pwmOff := 0
    pwmMax := 255
    pwmMin := 0
    debounce := 32 }

/-- The default parameters of 00_scope.md R4 (`NDESC` = 16 is the length of the table) with the profile above. -/
def Params.default : Params :=
  { ptW := 16, ptShifts := [0, 3, 6, 8, 10], ptPeriodMin := 1, rtW := 16, rtShift := 0, vstW := 8, dtW := 16,
    portW := 8, nloc := 4, profile := Profile.vectors }

/-- The open host parameters `IRQ_ORDER` and `HOST_NESTING` (00_scope.md R4, 60_exceptions.md R211, R214).
The block reads neither; `Safety.lean` says when a host that has this policy takes a request (log 14). -/
structure HostPolicy where
  /-- `IRQ_ORDER`: the four sources, the one served first at the head. -/
  order : List Src
  /-- `HOST_NESTING`: whether a request is taken while another source is in service. -/
  nesting : Bool
deriving DecidableEq, Repr

/-- The parameters of R4 that the platform fixes and that the spec leaves without a range or a default
(00_scope.md R4, 20_memory.md R64, 92_eei_decisions.md D3, D53, 93_implementation_defined.md U17). Only the host's side
reads them: `Machine/Platform.lean` says how a bus address reaches the block and how a time becomes ticks (log 15). -/
structure Platform where
  /-- `BASE`: the bus address of the block's offset 0. -/
  base : Nat
  /-- `F_T`: the frequency of the base clock `clk_T`, in ticks a second. -/
  fT : Nat
deriving DecidableEq, Repr

/-- The prescaler shift of select `sel` (10_state.md R11, 42_pulse_timer.md R120). -/
def Params.ptShift (p : Params) (sel : Nat) : Nat := p.ptShifts.getD sel 0

/-- The bits of a port register that exist: `PORT_W` ones (10_state.md R16). -/
def Params.portMask (p : Params) : Port := BitVec.ofNat 16 (2 ^ p.portW - 1)

end Sys2Proof
end

