-- ==== Sys2Proof/Machine/State.lean ====
section
/-! DEFINITION. The state of the block, piece by piece as 10_state.md lists it (R10 to R22), its value after reset
(R26), and the reasons a step may stop. Timer registers are the unsigned integers of R5 and R196, held as
numbers; the width of each is in its docstring and is an invariant (`State.Inv`, log 6). -/

namespace Sys2Proof.Machine

/-- `PT.state` (10_state.md R11); the value 3 never occurs. -/
inductive PulseState where
  | idle | armed | running
deriving DecidableEq, Repr

/-- `RT.state` and `DT.state` (10_state.md R13, R15). -/
inductive OneShot where
  | idle | armed
deriving DecidableEq, Repr

/-- The Pulse Timer (10_state.md R11). -/
structure PulseTimer where
  state : PulseState
  valid : Bool
  /-- `PT.PSEL_B`, buffered prescaler select, 3 bits. -/
  pselB : Nat
  /-- `PT.CMP_B`, buffered compare value, `PT_W` bits. -/
  cmpB : Nat
  /-- `PT.PSEL`, active prescaler select, 3 bits. -/
  psel : Nat
  /-- `PT.CMP`, active compare value, `PT_W` bits. -/
  cmp : Nat
  /-- `PT.DIV`, prescaler divider count, below 2^`PT_SHIFTS[PT.PSEL]`. -/
  div : Nat
  /-- `PT.CNT`, the counter, `PT_W` bits. -/
  cnt : Nat
deriving DecidableEq, Repr

/-- The Reset Timer (10_state.md R13). -/
structure ResetTimer where
  state : OneShot
  /-- `RT.CNT`, remaining ticks, `RT_W` bits. -/
  cnt : Nat
  /-- `RT.DIV`, prescaler divider count, below 2^`RT_SHIFT`. -/
  div : Nat
  /-- `RT.LOAD`, the delay last loaded, `RT_W` bits. -/
  load : Nat
deriving DecidableEq, Repr

/-- The Spindle PWM Timer (10_state.md R14). -/
structure SpindleTimer where
  en : Bool
  /-- `VST.DUTY`, `VST_W` bits. -/
  duty : Nat
  /-- `VST.CNT`, `VST_W` bits. -/
  cnt : Nat
deriving DecidableEq, Repr

/-- The Debounce Timer (10_state.md R15). -/
structure DebounceTimer where
  state : OneShot
  /-- `DT.CNT`, remaining ticks, `DT_W` bits. -/
  cnt : Nat
  /-- `DT.LOAD`, the delay latched when the window opened, `DT_W` bits. -/
  load : Nat
deriving DecidableEq, Repr

/-- The five registers of one location (10_state.md R16), `PORT_W` bits each. -/
structure PortRegs where
  dir : Port
  out : Port
  pue : Port
  pcmsk : Port
  inv : Port
deriving DecidableEq, Repr

/-- The configuration registers (10_state.md R20): three of `VST_W` bits, `DEBOUNCE` of `DT_W` bits. -/
structure CfgRegs where
  pwmOff : Nat
  pwmMax : Nat
  pwmMin : Nat
  debounce : Nat
deriving DecidableEq, Repr

/-- The bits of one interrupt source (10_state.md R21): `IRQ.PEND[src]`, `IRQ.INSERV[src]`, `IRQ.REG[src]` and
the callback handle `IRQ.CBVEC[src]`. -/
structure IrqBits where
  pend : Bool
  inserv : Bool
  reg : Bool
  cbvec : Word
deriving DecidableEq, Repr

/-- The interrupt state of the four sources (10_state.md R21). -/
structure Irq where
  pulse : IrqBits
  reset : IrqBits
  debounce : IrqBits
  change : IrqBits
deriving DecidableEq, Repr

/-- The error record (10_state.md R22): the sticky bits of R33 and the last failing transaction of R34. -/
structure ErrRecord where
  status : BitVec 10
  info : BitVec 18
deriving DecidableEq, Repr

/-- What a transaction returns to the host (00_scope.md R8, 30_encoding.md R79). -/
structure Answer where
  resp : Resp
  rdata : Word
deriving DecidableEq, Repr

/-- The events of 00_scope.md R7 and the reset event of 70_reset_and_hazards.md R230. -/
inductive Event where
  /-- `Bus(X)`: one register transaction of the host. -/
  | bus (x : Xact)
  /-- One tick of the base clock, seen by the Pulse Timer and the Reset Timer. -/
  | tickT
  /-- One tick of the spindle clock. -/
  | tickV
  /-- One tick of the debounce clock. -/
  | tickD
  /-- The external levels on the pads of a location become `v`. -/
  | pad (loc : Loc) (v : BitVec 16)
  /-- The reset input. -/
  | reset
deriving DecidableEq, Repr

/-- The state of the block. `params` holds the parameters and the descriptor table `DESC` (10_state.md R18), which
no event changes. `answer` and `schedule` are the model's own (log 4, log 5). -/
structure State where
  params : Params
  pt : PulseTimer
  rt : ResetTimer
  vst : SpindleTimer
  dt : DebounceTimer
  /-- `DIR`, `OUT`, `PUE`, `PCMSK`, `INV` of each location; the locations from `NLOC` on do not exist (log 7). -/
  ports : Vector PortRegs 8
  /-- `PAD[loc]` (10_state.md R17). -/
  pads : Vector Port 8
  cfg : CfgRegs
  irq : Irq
  err : ErrRecord
  /-- What the last transaction returned. -/
  answer : Answer
  /-- The events that have not happened yet, the next one at the head. -/
  schedule : List Event
deriving DecidableEq, Repr

/-- The ways a run is marked as faulted (93_implementation_defined.md, treatment `fault`). `step` never stops with
one, because each has a definite rule result; `Safety.lean` reads them off a step (log 10). Safe: a claim about
unfaulted runs excludes them. -/
inductive Fault where
  /-- U4: an arm whose width is not below the active pulse period (43_reset_timer.md R147). Raised by
  `Safety.strictStep`. Safe. -/
  | widthGePeriod
  /-- U8: a source fired while still pending (60_exceptions.md R215). Raised by `Safety.strictStep`. Safe. -/
  | overrun (src : Src)
  /-- U14: a source fired with no callback registered (60_exceptions.md R208). Raised by `Safety.strictStep`. Safe. -/
  | noCallback
  /-- U5: a response other than `OK` in interrupt context (60_exceptions.md R218). Raised by `Safety.strictStep`.
  Safe. -/
  | errorInInterrupt (e : Err)
deriving DecidableEq, Repr

/-- The ways the model turns an input away. No operation of the block is refused. -/
inductive Refusal where
  /-- An instruction whose meaning is not written yet; raised by `exec` only. No arm answers with it. Safe. -/
  | notModelled (mnemonic : String)
  /-- U9: parameters or a descriptor table outside 00_scope.md R4 and 10_state.md R19. Raised by `Safety.boot`, before
  a run. Safe. -/
  | badParameters
deriving DecidableEq, Repr

/-- The state after reset of a machine with parameters `p`, pad levels `pads` and the events still to come
(10_state.md R26, 70_reset_and_hazards.md R230, R231): everything idle and zero, `INV` and `CFG` at the profile's
defaults. -/
def State.resetWith (p : Params) (pads : Vector Port 8) (schedule : List Event) : State :=
  { params := p
    pt := { state := .idle, valid := false, pselB := 0, cmpB := 0, psel := 0, cmp := 0, div := 0, cnt := 0 }
    rt := { state := .idle, cnt := 0, div := 0, load := 0 }
    vst := { en := false, duty := 0, cnt := 0 }
    dt := { state := .idle, cnt := 0, load := 0 }
    ports := p.profile.inv.map (fun m => { dir := 0, out := 0, pue := 0, pcmsk := 0, inv := m })
    pads := pads
    cfg := { pwmOff := p.profile.pwmOff, pwmMax := p.profile.pwmMax, pwmMin := p.profile.pwmMin,
             debounce := p.profile.debounce }
    irq := { pulse := ⟨false, false, false, 0⟩, reset := ⟨false, false, false, 0⟩,
             debounce := ⟨false, false, false, 0⟩, change := ⟨false, false, false, 0⟩ }
    err := { status := 0, info := 0 }
    answer := { resp := .ok, rdata := 0 }
    schedule := schedule }

/-- The machine right after reset (10_state.md R26) with the default parameters and the test profile (log 2), every
pad low (log 3), and no event pending (log 4). -/
def State.reset : State := State.resetWith Params.default (Vector.replicate 8 0) []

end Sys2Proof.Machine
end

