-- ==== Sys2Proof/Machine/Operands.lean ====
section
/-! DEFINITION. Operand arithmetic and descriptor operands: saturation (00_scope.md R9), the period derivation of
the Pulse Timer (42_pulse_timer.md R122), the bits of a port operand (30_encoding.md R72), the descriptor check and
the polarity of the GPIO Engine (41_gpio_engine.md R100, R101), and the words of the descriptor windows. -/

namespace Sys2Proof.Machine

/-- `clamp(v, lo, hi)`, the test against `lo` first (00_scope.md R9). -/
def clamp (v lo hi : Nat) : Nat := if v < lo then lo else if hi < v then hi else v

/-- Saturation to a register of `w` bits: `min(v, 2^w - 1)` (10_state.md R37, 46_system_ops.md R185). -/
def saturate (w v : Nat) : Nat := min v (2 ^ w - 1)

/-- The search of 42_pulse_timer.md R122 from select `sel` on: the first shift whose quotient fits `w` bits, with
the compare value it gives. -/
def ptSearch (w p1 : Nat) : Nat → List Nat → Option (Nat × Nat)
  | _, [] => none
  | sel, k :: ks => if p1 >>> k ≤ 2 ^ w then some (sel, (p1 >>> k) - 1) else ptSearch w p1 (sel + 1) ks

/-- `pt_derive(p)`, the pair (`sel`, `cmp`) of a period of `p` base ticks (42_pulse_timer.md R122). -/
def ptDerive (P : Params) (p : Nat) : Nat × Nat :=
  (ptSearch P.ptW (max p P.ptPeriodMin) 0 P.ptShifts).getD (P.ptShifts.length - 1, 2 ^ P.ptW - 1)

/-- The period in base ticks of a compare value and a prescaler shift: (`cmp`+1) << shift (42_pulse_timer.md R121). -/
def ticksOf (cmp shift : Nat) : Nat := (cmp + 1) <<< shift

/-- `v[PORT_W-1:0]` as a port pattern (30_encoding.md R72, 46_system_ops.md R187). -/
def portBits (P : Params) {n : Nat} (v : BitVec n) : Port := v.setWidth 16 &&& P.portMask

/-- `DESC[desc]` as the rules read it: the entry, or an unbound one at and above `NDESC`. -/
def descAt (P : Params) (desc : DescIdx) : Descriptor := (P.profile.desc[desc.toNat]?).getD Descriptor.unbound

/-- `gp_check(desc, kinds, dirs)` (41_gpio_engine.md R100): the descriptor, or nothing for `BAD_DESC`. -/
def gpCheck (P : Params) (desc : DescIdx) (kinds : List Kind) (dirs : List Dir) : Option Descriptor :=
  let d := descAt P desc
  if P.ndesc ≤ desc.toNat then none
  else if d.valid = false then none
  else if kinds.contains d.kind = false then none
  else if dirs.contains d.dir = false then none
  else some d

/-- The toggle mask `T(d) = (d.pol ^ INV[d.loc]) & d.mask`, given `INV[d.loc]` (41_gpio_engine.md R101). -/
def toggle (d : Descriptor) (inv : Port) : Port := (d.pol ^^^ inv) &&& d.mask

/-- The bit of `kind` (10_state.md R18). -/
def kindBit : Kind → BitVec 1
  | .pin => 0 | .group => 1

/-- The bit of `dir` (10_state.md R18). -/
def dirBit : Dir → BitVec 1
  | .input => 0 | .output => 1

/-- The `VP.RESOLVE` word of an entry (10_state.md R35, 40_virtual_port_model.md R90). -/
def resolveWord (d : Descriptor) : Word :=
  if d.valid then
    BitVec.ofBool d.valid ++ kindBit d.kind ++ dirBit d.dir ++ 0#2 ++ d.loc ++ d.bitpos ++ 0#4 ++ d.mask
  else 0

/-- The `VP.POL` word of an entry (10_state.md R36, 40_virtual_port_model.md R91). -/
def polWord (d : Descriptor) : Word := if d.valid then d.pol.setWidth 32 else 0

end Sys2Proof.Machine
end

