-- ==== Sys2Proof/Machine/Flags.lean ====
section
/-! DEFINITION. The flags of 10_state.md R25 and how they are computed: the derived ones (`PT.IE`, `VST.pwm_out`,
`IRQ.LINE`), the pending, in-service and registered bits of a source, the sticky bits of the error record, and the
readable words made of them (R28 to R34). -/

namespace Sys2Proof.Machine

/-- `PT.IE` = (`PT.state` == Running) (10_state.md R11). -/
def PulseTimer.ie (t : PulseTimer) : Bool := t.state = .running

/-- The number of `PT.state` (10_state.md R11). -/
def PulseState.bits : PulseState → BitVec 2
  | .idle => 0 | .armed => 1 | .running => 2

/-- The number of `RT.state` and `DT.state` (10_state.md R13, R15). -/
def OneShot.bits : OneShot → BitVec 1
  | .idle => 0 | .armed => 1

/-- `VST.pwm_out` = `VST.EN` & (`VST.CNT` < `VST.DUTY`) (10_state.md R14, 44_spindle_pwm.md R155). -/
def SpindleTimer.pwmOut (t : SpindleTimer) : Bool := t.en && t.cnt < t.duty

/-- The active pulse period in base ticks, (`PT.CMP`+1) << `PT_SHIFTS[PT.PSEL]` (42_pulse_timer.md R129). -/
def PulseTimer.period (P : Params) (t : PulseTimer) : Nat := ticksOf t.cmp (P.ptShift t.psel)

/-- The programmed (buffered) pulse period in base ticks (10_state.md R23). -/
def PulseTimer.program (P : Params) (t : PulseTimer) : Nat := ticksOf t.cmpB (P.ptShift t.pselB)

/-- `IRQ.LINE[src]` = `PEND & REG & ~INSERV` (10_state.md R21). -/
def IrqBits.line (b : IrqBits) : Bool := b.pend && b.reg && !b.inserv

/-- The bits of one source. -/
def Irq.get (q : Irq) : Src → IrqBits
  | .pulse => q.pulse | .reset => q.reset | .debounce => q.debounce | .change => q.change

/-- Replace the bits of one source. -/
def Irq.set (q : Irq) (src : Src) (b : IrqBits) : Irq :=
  match src with
  | .pulse => { q with pulse := b }
  | .reset => { q with reset := b }
  | .debounce => { q with debounce := b }
  | .change => { q with change := b }

/-- Write `IRQ.PEND[src]`. -/
def Irq.setPend (q : Irq) (src : Src) (v : Bool) : Irq := q.set src { q.get src with pend := v }

/-- One flag of the four sources as a nibble: bit 0 PULSE, 1 RESET, 2 DEBOUNCE, 3 CHANGE (10_state.md R32). -/
def Irq.nibble (q : Irq) (f : IrqBits → Bool) : BitVec 4 :=
  BitVec.ofBool (f q.change) ++ BitVec.ofBool (f q.debounce) ++ BitVec.ofBool (f q.reset) ++ BitVec.ofBool (f q.pulse)

/-- The host is in interrupt context while any in-service bit is set (60_exceptions.md R218). -/
def Irq.inInterrupt (q : Irq) : Bool :=
  q.pulse.inserv || q.reset.inserv || q.debounce.inserv || q.change.inserv

/-- The response code of an error (60_exceptions.md R200). -/
def errCode : Err → BitVec 3
  | .cfgErr => 1 | .stateErr => 2 | .badDesc => 3 | .busErr => 4

/-- The response code (30_encoding.md R79). -/
def respCode : Resp → BitVec 3
  | .ok => 0
  | .err e => errCode e

/-- The sticky bit of an error class (10_state.md R33, 60_exceptions.md R205). -/
def errSticky : Err → Nat
  | .cfgErr => 0 | .stateErr => 1 | .badDesc => 2 | .busErr => 3

/-- The sticky bit `OVERRUN_<src>`, `ERR.STATUS[4 + src]` (10_state.md R33, 60_exceptions.md R208). -/
def overrunBit (src : Src) : Nat := 4 + src.bits.toNat

/-- The sticky bit `WIDTH_GE_PERIOD` (10_state.md R33). -/
def widthBit : Nat := 8

/-- The sticky bit `NOCB` (10_state.md R33). -/
def nocbBit : Nat := 9

/-- Set one sticky bit of `ERR.STATUS` (10_state.md R22). -/
def ErrRecord.stick (r : ErrRecord) (n : Nat) : ErrRecord := { r with status := r.status ||| (1#10 <<< n) }

/-- Set one sticky bit if `c` holds. -/
def ErrRecord.stickIf (r : ErrRecord) (c : Bool) (n : Nat) : ErrRecord := if c then r.stick n else r

/-- `ERR.INFO` <- {SZ, code, WR, OFF} of a transaction (10_state.md R34, 60_exceptions.md R205). -/
def errInfoOf (e : Err) (x : Xact) : BitVec 18 :=
  Xact.sz x ++ errCode e ++ Xact.wr x ++ Xact.off x

/-- The error record after a failing transaction (60_exceptions.md R205 (2), (3)). -/
def ErrRecord.record (r : ErrRecord) (e : Err) (x : Xact) : ErrRecord :=
  { r.stick (errSticky e) with info := errInfoOf e x }

/-- The condition of `width_check(d1)` (43_reset_timer.md R147). -/
def widthGePeriod (P : Params) (t : PulseTimer) (d1 : Nat) : Bool :=
  t.state = .running && t.period P ≤ d1 <<< P.rtShift

/-- The `PT.STATUS` word (10_state.md R28, 42_pulse_timer.md R126). -/
def ptStatusWord (t : PulseTimer) : Word :=
  BitVec.ofNat 16 t.cmpB ++ 0#5 ++ BitVec.ofNat 3 t.pselB ++ 0#1 ++ BitVec.ofNat 3 t.psel ++ BitVec.ofBool t.valid ++
    BitVec.ofBool t.ie ++ t.state.bits

/-- The `RT.STATUS` word (10_state.md R29, 43_reset_timer.md R143). -/
def rtStatusWord (t : ResetTimer) : Word := BitVec.ofNat 16 t.load ++ 0#12 ++ 0#3 ++ t.state.bits

/-- The `VST.STATUS` word (10_state.md R30, 44_spindle_pwm.md R159). -/
def vstStatusWord (t : SpindleTimer) : Word :=
  0#12 ++ 0#2 ++ BitVec.ofBool t.pwmOut ++ BitVec.ofBool t.en ++ BitVec.ofNat 16 t.duty

/-- The `DT.STATUS` word (10_state.md R31, 45_debounce_timer.md R173). -/
def dtStatusWord (t : DebounceTimer) : Word := BitVec.ofNat 16 t.load ++ 0#12 ++ 0#3 ++ t.state.bits

/-- The `IRQ.PENDING` word (10_state.md R32, 46_system_ops.md R182). -/
def irqPendingWord (q : Irq) : Word :=
  0#4 ++ q.nibble IrqBits.line ++ 0#4 ++ q.nibble IrqBits.reg ++ 0#4 ++ q.nibble IrqBits.inserv ++ 0#4 ++
    q.nibble IrqBits.pend

end Sys2Proof.Machine
end

