-- ==== Sys2Proof/Machine/Ops.lean ====
section
/-! DEFINITION. The named operations every meaning is made of: updates of one piece of state, the port registers and
pin levels of a location (10_state.md R16, R17), how a transaction answers (00_scope.md R8), how it fails
(60_exceptions.md R205), how a source fires (R208) and how a pin change is detected (41_gpio_engine.md R108), the
host's side of trap entry and return (R212, R213), and where the next event comes from. -/

namespace Sys2Proof.Machine

/-- What a meaning answers. -/
abbrev Out := Host.Outcome State Fault Refusal

def State.setPt (s : State) (t : PulseTimer) : State := { s with pt := t }
def State.setRt (s : State) (t : ResetTimer) : State := { s with rt := t }
def State.setVst (s : State) (t : SpindleTimer) : State := { s with vst := t }
def State.setDt (s : State) (t : DebounceTimer) : State := { s with dt := t }
def State.setCfg (s : State) (c : CfgRegs) : State := { s with cfg := c }
def State.setIrq (s : State) (q : Irq) : State := { s with irq := q }
def State.setErr (s : State) (r : ErrRecord) : State := { s with err := r }
def State.setAnswer (s : State) (a : Answer) : State := { s with answer := a }
def State.setSchedule (s : State) (es : List Event) : State := { s with schedule := es }

/-- The registers of location `loc` (10_state.md R16; 00_scope.md R6, `REG[loc]`). -/
def State.port (s : State) (loc : Loc) : PortRegs := s.ports[loc.toNat]'loc.isLt

/-- Replace the registers of location `loc`. -/
def State.setPort (s : State) (loc : Loc) (r : PortRegs) : State := { s with ports := s.ports.set loc.toNat r loc.isLt }

/-- `PAD[loc]` (10_state.md R17). -/
def State.pad (s : State) (loc : Loc) : Port := s.pads[loc.toNat]'loc.isLt

/-- Replace `PAD[loc]`. -/
def State.setPad (s : State) (loc : Loc) (v : Port) : State := { s with pads := s.pads.set loc.toNat v loc.isLt }

/-- `PINLVL[loc]`: bit `b` is `OUT[loc][b]` if `DIR[loc][b]` = 1, else `PAD[loc][b]` (10_state.md R17). -/
def State.pinlvl (s : State) (loc : Loc) : Port :=
  ((s.port loc).out &&& (s.port loc).dir) ||| (s.pad loc &&& ~~~(s.port loc).dir)

/-- `PADEN[loc]` = `DIR[loc]`, the pad drive enable (10_state.md R17). -/
def State.paden (s : State) (loc : Loc) : Port := (s.port loc).dir

/-- The pins of location `loc` that the PWM output has taken over: the pin of `PROFILE.VST_PIN` while `VST.EN` = 1
(10_state.md R17, 44_spindle_pwm.md R161). -/
def State.pwmPins (s : State) (loc : Loc) : Port :=
  match s.params.profile.desc[s.params.profile.vstPin]? with
  | some d => if s.vst.en && d.loc = loc then 1#16 <<< d.bitpos.toNat else 0
  | none => 0

/-- `PADOUT[loc]`, the pad drive value: `VST.pwm_out` on the PWM pin while `VST.EN` = 1, `OUT[loc]` elsewhere
(10_state.md R17). -/
def State.padout (s : State) (loc : Loc) : Port :=
  ((s.port loc).out &&& ~~~s.pwmPins loc) ||| (if s.vst.pwmOut then s.pwmPins loc else 0)

/-- The transaction ends with response `OK` and no read data (00_scope.md R8). -/
def ok (s : State) : Out := .next (s.setAnswer ⟨.ok, 0⟩)

/-- A read ends with response `OK` and read data `v`; no state changes (20_memory.md R55). -/
def okRead (v : Word) (s : State) : Out := .next (s.setAnswer ⟨.ok, v⟩)

/-- The block's one way to fail, for the transaction word `x`: the sticky bit of the class and `ERR.INFO` are
written, nothing else changes, and the response is the error with read data 0 (60_exceptions.md R205). -/
def fail (e : Err) (x : Xact) (s : State) : State := (s.setErr (s.err.record e x)).setAnswer ⟨.err e, 0⟩

/-- `raise <Err>` in the operation `i` (00_scope.md R6): the transaction recorded is the one that encodes `i`. -/
def raise (e : Err) (i : Instr) (s : State) : Out := .next (fail e (encode i) s)

/-- An illegal transaction word returns `BUS_ERR` (30_encoding.md R73, R75; 20_memory.md R53, R57). -/
def illegal (x : Xact) (s : State) : Out := .next (fail .busErr x s)

/-- `fire(src)` (60_exceptions.md R208): the overrun bit if the source is still pending, `NOCB` if no callback is
registered, and the pending bit. -/
def fire (src : Src) (s : State) : State :=
  (s.setErr ((s.err.stickIf (s.irq.get src).pend (overrunBit src)).stickIf (!(s.irq.get src).reg) nocbBit)).setIrq
    (s.irq.setPend src true)

/-- `pc_detect(loc, old, new)` (41_gpio_engine.md R108). -/
def pcDetect (loc : Loc) (old new : Port) (s : State) : State :=
  if (old ^^^ new) &&& (s.port loc).pcmsk ≠ 0 then fire .change s else s

/-- A request is withdrawn: `IRQ.PEND[src] <- 0` (60_exceptions.md R216). -/
def cancel (src : Src) (s : State) : State := s.setIrq (s.irq.setPend src false)

/-- Trap entry, the block's side (60_exceptions.md R212 step 2, 46_system_ops.md R183). -/
def takeIrq (src : Src) (s : State) : State :=
  s.setIrq (s.irq.set src { s.irq.get src with pend := false, inserv := true })

/-- Trap return, the block's side (60_exceptions.md R213, 46_system_ops.md R184). -/
def doneIrq (src : Src) (s : State) : State := s.setIrq (s.irq.set src { s.irq.get src with inserv := false })

/-- `width_check(d1)` (43_reset_timer.md R147). -/
def widthCheck (d1 : Nat) (s : State) : State :=
  s.setErr (s.err.stickIf (widthGePeriod s.params s.pt d1) widthBit)

/-- A read of a per-location register: `BUS_ERR` if `loc` ≥ `NLOC` (30_encoding.md R73 step 4). -/
def readLoc (i : Instr) (loc : Loc) (v : Port) (s : State) : Out :=
  if s.params.nloc ≤ loc.toNat then raise .busErr i s else okRead (v.setWidth 32) s

/-- The next event and the state in which it happens: the schedule without it (log 4). -/
def fetch (s : State) : Option (Event × State) :=
  match s.schedule with
  | [] => none
  | e :: es => some (e, s.setSchedule es)

end Sys2Proof.Machine
end

