-- ==== Sys2Proof/Machine/Debounce.lean ====
section
/-! DEFINITION. The Debounce Timer: its operations and the debounce tick (45_debounce_timer.md). -/

namespace Sys2Proof.Machine

/-- The delay an arm latches: `clamp(CFG.DEBOUNCE, 1, 2^DT_W - 1)` (45_debounce_timer.md R171). -/
def dtDelay (s : State) : Nat := clamp s.cfg.debounce 1 (2 ^ s.params.dtW - 1)

/-- `DT.ARM` (45_debounce_timer.md R171): a no-op while a window is open. -/
def execDtArm (s : State) : Out :=
  if s.dt.state = .armed then ok s else ok (s.setDt { state := .armed, cnt := dtDelay s, load := dtDelay s })

/-- `DT.DISARM` (45_debounce_timer.md R172). -/
def execDtDisarm (s : State) : Out := ok (cancel .debounce (s.setDt { s.dt with state := .idle, cnt := 0 }))

/-- `DT.STATUS` (45_debounce_timer.md R173). -/
def execDtStatus (s : State) : Out := okRead (dtStatusWord s.dt) s

/-- The `TickD` event (45_debounce_timer.md R174). -/
def dtTick (s : State) : State :=
  if s.dt.state = .armed then
    if s.dt.cnt - 1 = 0 then fire .debounce (s.setDt { s.dt with cnt := 0, state := .idle })
    else s.setDt { s.dt with cnt := s.dt.cnt - 1 }
  else s

end Sys2Proof.Machine
end

