-- ==== Sys2Proof/Machine/Gpio.lean ====
section
/-! DEFINITION. The GPIO Engine: its operations and the `Pad` event (41_gpio_engine.md). Each operation is one
read-modify-write of one register of the descriptor's location (20_memory.md R60). -/

namespace Sys2Proof.Machine

/-- Set or clear the bits of `m` in a register: `REG | m` or `REG & ~m`. -/
def maskWrite (reg m : Port) (b : Bool) : Port := if b then reg ||| m else reg &&& ~~~m

/-- Replace the bits of `m` in a register by those of `v`: `(REG & ~m) | (v & m)`. -/
def maskMerge (reg m v : Port) : Port := (reg &&& ~~~m) ||| (v &&& m)

/-- Write the registers of location `loc` and detect the level change this makes: `old` is `PINLVL` before the write,
`new` after it (41_gpio_engine.md R102 to R104, R108). -/
def writePort (s : State) (loc : Loc) (r : PortRegs) : State :=
  pcDetect loc (s.pinlvl loc) ((s.setPort loc r).pinlvl loc) (s.setPort loc r)

/-- `GP.INIT desc` (41_gpio_engine.md R102): direction only. -/
def execGpInit (desc : DescIdx) (s : State) : Out :=
  match gpCheck s.params desc [.pin, .group] [.input, .output] with
  | none => raise .badDesc (.gpInit desc) s
  | some d =>
    ok (writePort s d.loc { s.port d.loc with dir := maskWrite (s.port d.loc).dir d.mask (d.dir = .output) })

/-- `GP.WRITE desc, bits` (41_gpio_engine.md R103). -/
def execGpWrite (desc : DescIdx) (val : BitVec 16) (s : State) : Out :=
  match gpCheck s.params desc [.group] [.output] with
  | none => raise .badDesc (.gpWrite desc val) s
  | some d =>
    ok (writePort s d.loc { s.port d.loc with
      out := maskMerge (s.port d.loc).out d.mask (portBits s.params val ^^^ toggle d (s.port d.loc).inv) })

/-- `GP.WRITE_PIN desc, b` (41_gpio_engine.md R104); `b` is `val[0]`. -/
def execGpWritePin (desc : DescIdx) (val : BitVec 16) (s : State) : Out :=
  match gpCheck s.params desc [.pin] [.output] with
  | none => raise .badDesc (.gpWritePin desc val) s
  | some d =>
    let p := (val.getLsbD 0) ^^ ((toggle d (s.port d.loc).inv).getLsbD d.bitpos.toNat)
    ok (writePort s d.loc { s.port d.loc with
      out := ((s.port d.loc).out &&& ~~~d.mask) ||| ((BitVec.ofBool p).setWidth 16 <<< d.bitpos.toNat) })

/-- What a read through descriptor `d` returns (41_gpio_engine.md R105): the latch for an output, the pin level for an
input, after polarity; a group in physical bit positions, a pin shifted down to bit 0. -/
def gpReadWord (s : State) (d : Descriptor) : Word :=
  let raw := if d.dir = .output then (s.port d.loc).out else s.pinlvl d.loc
  let l := (raw ^^^ toggle d (s.port d.loc).inv) &&& d.mask
  if d.kind = .group then l.setWidth 32 else (l >>> d.bitpos.toNat).setWidth 32

/-- `GP.READ desc` (41_gpio_engine.md R105): an index at or above `NDESC` is `BUS_ERR`, an unbound one `BAD_DESC`. -/
def execGpRead (desc : DescIdx) (s : State) : Out :=
  if s.params.ndesc ≤ desc.toNat then raise .busErr (.gpRead desc) s
  else match gpCheck s.params desc [.pin, .group] [.input, .output] with
    | none => raise .badDesc (.gpRead desc) s
    | some d => okRead (gpReadWord s d) s

/-- `GP.SET_PULLUP desc, b` (41_gpio_engine.md R106); `b` is `val[0]`; a no-op on an output descriptor. -/
def execGpSetPullup (desc : DescIdx) (val : BitVec 16) (s : State) : Out :=
  match gpCheck s.params desc [.pin, .group] [.input, .output] with
  | none => raise .badDesc (.gpSetPullup desc val) s
  | some d =>
    if d.dir = .input then
      ok (s.setPort d.loc { s.port d.loc with pue := maskWrite (s.port d.loc).pue d.mask (val.getLsbD 0) })
    else ok s

/-- `PCMSK[l]` is 0 for every `l` in 0..`NLOC`-1. -/
def noChangeMask (s : State) : Bool :=
  (List.finRange 8).all (fun l => s.params.nloc ≤ l.val || (s.ports[l]).pcmsk = 0)

/-- `GP.CHANGE_INT desc, b` (41_gpio_engine.md R107); `b` is `val[0]`. Clearing the last mask bit withdraws the pending
request. -/
def execGpChangeInt (desc : DescIdx) (val : BitVec 16) (s : State) : Out :=
  match gpCheck s.params desc [.group] [.input, .output] with
  | none => raise .badDesc (.gpChangeInt desc val) s
  | some d =>
    let s1 := s.setPort d.loc { s.port d.loc with pcmsk := maskWrite (s.port d.loc).pcmsk d.mask (val.getLsbD 0) }
    ok (if noChangeMask s1 then cancel .change s1 else s1)

/-- The `Pad(loc, v)` event (41_gpio_engine.md R109); a location that does not exist has no pads (log 8). -/
def padEvent (loc : Loc) (v : BitVec 16) (s : State) : State :=
  if s.params.nloc ≤ loc.toNat then s
  else
    let s1 := s.setPad loc (portBits s.params v)
    pcDetect loc (s.pinlvl loc) (s1.pinlvl loc) s1

end Sys2Proof.Machine
end

