-- ==== Sys2Proof/Machine/PulseTimer.lean ====
section
/-! DEFINITION. The Pulse Timer: its operations and its part of the base tick (42_pulse_timer.md). -/

namespace Sys2Proof.Machine

/-- `PT.CONFIGURE p` (42_pulse_timer.md R123). `STATE_ERR` is tested before `CFG_ERR` (60_exceptions.md R206). -/
def execPtConfigure (p : Word) (s : State) : Out :=
  if s.pt.state = .armed then raise .stateErr (.ptConfigure p) s
  else if p = 0 then raise .cfgErr (.ptConfigure p) s
  else
    let (sel, cmp) := ptDerive s.params p.toNat
    ok (s.setPt { s.pt with
      pselB := sel, cmpB := cmp, valid := true, state := if s.pt.state = .idle then .armed else s.pt.state })

/-- `PT.START` (42_pulse_timer.md R124). -/
def execPtStart (s : State) : Out :=
  if s.pt.state = .running then ok s
  else if s.pt.valid = false then raise .cfgErr .ptStart s
  else ok (s.setPt { s.pt with psel := s.pt.pselB, cmp := s.pt.cmpB, cnt := 0, div := 0, state := .running })

/-- `PT.STOP` (42_pulse_timer.md R125). -/
def execPtStop (s : State) : Out :=
  ok (cancel .pulse (s.setPt { s.pt with state := .idle, psel := 0, div := 0, cnt := 0 }))

/-- `PT.STATUS` (42_pulse_timer.md R126). -/
def execPtStatus (s : State) : Out := okRead (ptStatusWord s.pt) s

/-- The compare/match unit on one prescaled tick (42_pulse_timer.md R121, R127): count, or clear the counter, make the
buffered pair active and fire PULSE. -/
def ptPrescaled (s : State) : State :=
  if s.pt.cnt < s.pt.cmp then s.setPt { s.pt with div := 0, cnt := s.pt.cnt + 1 }
  else fire .pulse (s.setPt { s.pt with div := 0, cnt := 0, psel := s.pt.pselB, cmp := s.pt.cmpB })

/-- The Pulse Timer's part of `TickT` (42_pulse_timer.md R127), with the prescaler of R120. -/
def ptTick (s : State) : State :=
  if s.pt.state = .running then
    if s.pt.div + 1 < 2 ^ s.params.ptShift s.pt.psel then s.setPt { s.pt with div := s.pt.div + 1 } else ptPrescaled s
  else s

end Sys2Proof.Machine
end

