-- ==== Sys2Proof/Machine/ResetTimer.lean ====
section
/-! DEFINITION. The Reset Timer: its operations and its part of the base tick (43_reset_timer.md). -/

namespace Sys2Proof.Machine

/-- The effective delay of an arm: `clamp(d, 1, 2^RT_W - 1)`; zero becomes one tick (43_reset_timer.md R141, R146). -/
def rtDelay (P : Params) (d : Word) : Nat := clamp d.toNat 1 (2 ^ P.rtW - 1)

/-- `RT.ARM d` (43_reset_timer.md R141). -/
def execRtArm (d : Word) (s : State) : Out :=
  let d1 := rtDelay s.params d
  ok (widthCheck d1 (s.setRt { state := .armed, cnt := d1, div := 0, load := d1 }))

/-- `RT.DISARM` (43_reset_timer.md R142). -/
def execRtDisarm (s : State) : Out := ok (cancel .reset (s.setRt { s.rt with state := .idle, cnt := 0, div := 0 }))

/-- `RT.STATUS` (43_reset_timer.md R143). -/
def execRtStatus (s : State) : Out := okRead (rtStatusWord s.rt) s

/-- The Reset Timer's part of `TickT` (43_reset_timer.md R144): the match is the tick that brings the count to 0. -/
def rtTick (s : State) : State :=
  if s.rt.state = .armed then
    if s.rt.div + 1 < 2 ^ s.params.rtShift then s.setRt { s.rt with div := s.rt.div + 1 }
    else if s.rt.cnt - 1 = 0 then fire .reset (s.setRt { s.rt with div := 0, cnt := 0, state := .idle })
    else s.setRt { s.rt with div := 0, cnt := s.rt.cnt - 1 }
  else s

end Sys2Proof.Machine
end

