-- ==== Sys2Proof/Machine/Spindle.lean ====
section
/-! DEFINITION. The Spindle PWM Timer: its operations and the spindle tick (44_spindle_pwm.md). -/

namespace Sys2Proof.Machine

/-- `VST.ENABLE b` (44_spindle_pwm.md R156): the duty is never changed, and disabling holds the counter at 0. -/
def execVstEnable (b : Bool) (s : State) : Out :=
  if b then ok (s.setVst { s.vst with en := true }) else ok (s.setVst { s.vst with en := false, cnt := 0 })

/-- `VST.SET_DUTY v` (44_spindle_pwm.md R157). -/
def execVstSetDuty (v : Word) (s : State) : Out :=
  ok (s.setVst { s.vst with duty := clamp v.toNat s.cfg.pwmOff s.cfg.pwmMax })

/-- `VST.IS_ENABLED` (44_spindle_pwm.md R158). -/
def execVstIsEnabled (s : State) : Out := okRead ((BitVec.ofBool s.vst.en).setWidth 32) s

/-- `VST.STATUS` (44_spindle_pwm.md R159). -/
def execVstStatus (s : State) : Out := okRead (vstStatusWord s.vst) s

/-- The `TickV` event (44_spindle_pwm.md R160): the only wrap-around in the block. -/
def vstTick (s : State) : State :=
  if s.vst.en then s.setVst { s.vst with cnt := (s.vst.cnt + 1) % 2 ^ s.params.vstW } else s

end Sys2Proof.Machine
end

