-- ==== Sys2Proof/Machine/System.lean ====
section
/-! DEFINITION. The system operations: callback registration, the interrupt handshake, configuration, the error
record and the diagnostic views (46_system_ops.md), and the reset event (70_reset_and_hazards.md R230). -/

namespace Sys2Proof.Machine

/-- `CB.REGISTER src, handle` (46_system_ops.md R180): once per source until reset. -/
def execCbRegister (src : Src) (handle : Word) (s : State) : Out :=
  if (s.irq.get src).reg then raise .stateErr (.cbRegister src handle) s
  else ok (s.setIrq (s.irq.set src { s.irq.get src with cbvec := handle, reg := true }))

/-- `CB.READ src` (46_system_ops.md R181). -/
def execCbRead (src : Src) (s : State) : Out := okRead (s.irq.get src).cbvec s

/-- `IRQ.PENDING` (46_system_ops.md R182). -/
def execIrqPending (s : State) : Out := okRead (irqPendingWord s.irq) s

/-- `IRQ.TAKE src` (46_system_ops.md R183). -/
def execIrqTake (src : Src) (s : State) : Out :=
  if (s.irq.get src).line then ok (takeIrq src s) else raise .stateErr (.irqTake src) s

/-- `IRQ.DONE src` (46_system_ops.md R184). -/
def execIrqDone (src : Src) (s : State) : Out :=
  if (s.irq.get src).inserv then ok (doneIrq src s) else raise .stateErr (.irqDone src) s

/-- `CFG[k]` (10_state.md R37). -/
def CfgRegs.get (c : CfgRegs) : CfgReg → Nat
  | .pwmOff => c.pwmOff | .pwmMax => c.pwmMax | .pwmMin => c.pwmMin | .debounce => c.debounce

/-- Replace `CFG[k]`. -/
def CfgRegs.set (c : CfgRegs) (k : CfgReg) (v : Nat) : CfgRegs :=
  match k with
  | .pwmOff => { c with pwmOff := v }
  | .pwmMax => { c with pwmMax := v }
  | .pwmMin => { c with pwmMin := v }
  | .debounce => { c with debounce := v }

/-- The width of `CFG[k]` (10_state.md R20). -/
def cfgWidth (P : Params) : CfgReg → Nat
  | .pwmOff | .pwmMax | .pwmMin => P.vstW
  | .debounce => P.dtW

/-- `CFG.SET k, v` (46_system_ops.md R185): saturates, never rejects. -/
def execCfgSet (k : CfgReg) (v : Word) (s : State) : Out :=
  ok (s.setCfg (s.cfg.set k (saturate (cfgWidth s.params k) v.toNat)))

/-- `CFG.GET k` (46_system_ops.md R186). -/
def execCfgGet (k : CfgReg) (s : State) : Out := okRead (BitVec.ofNat 32 (s.cfg.get k)) s

/-- `ERR.STATUS` (46_system_ops.md R189). -/
def execErrStatus (s : State) : Out := okRead (s.err.status.setWidth 32) s

/-- `ERR.INFO` (46_system_ops.md R190). -/
def execErrInfo (s : State) : Out := okRead (s.err.info.setWidth 32) s

/-- `RAW.DIR loc` (46_system_ops.md R191). -/
def execRawDir (loc : Loc) (s : State) : Out := readLoc (.rawDir loc) loc (s.port loc).dir s

/-- `RAW.OUT loc` (46_system_ops.md R192). -/
def execRawOut (loc : Loc) (s : State) : Out := readLoc (.rawOut loc) loc (s.port loc).out s

/-- `RAW.IN loc` (46_system_ops.md R193). -/
def execRawIn (loc : Loc) (s : State) : Out := readLoc (.rawIn loc) loc (s.pinlvl loc) s

/-- `RAW.PUE loc` (46_system_ops.md R194). -/
def execRawPue (loc : Loc) (s : State) : Out := readLoc (.rawPue loc) loc (s.port loc).pue s

/-- `RAW.PCMSK loc` (46_system_ops.md R195). -/
def execRawPcmsk (loc : Loc) (s : State) : Out := readLoc (.rawPcmsk loc) loc (s.port loc).pcmsk s

/-- `INV.SET loc, m` (46_system_ops.md R187): keeps `m[PORT_W-1:0]`, changes no level and requests nothing. -/
def execInvSet (loc : Loc) (m : Word) (s : State) : Out :=
  if s.params.nloc ≤ loc.toNat then raise .busErr (.invSet loc m) s
  else ok (s.setPort loc { s.port loc with inv := portBits s.params m })

/-- `INV.GET loc` (46_system_ops.md R188). -/
def execInvGet (loc : Loc) (s : State) : Out := readLoc (.invGet loc) loc (s.port loc).inv s

/-- The reset event (70_reset_and_hazards.md R230): everything at the value of 10_state.md R26; the parameters and the
pads are not the block's to reset, and the events still to come stay (log 5). -/
def resetEvent (s : State) : State := State.resetWith s.params s.pads s.schedule

end Sys2Proof.Machine
end

