-- ==== Sys2Proof/Machine/VirtualPort.lean ====
section
/-! DEFINITION. The Virtual Port Model: the two read windows of the descriptor table (40_virtual_port_model.md). -/

namespace Sys2Proof.Machine

/-- A window read: `BUS_ERR` if `desc` ≥ `NDESC` (30_encoding.md R73 step 4), else a word of the entry. -/
def readWindow (i : Instr) (desc : DescIdx) (word : Descriptor → Word) (s : State) : Out :=
  if s.params.ndesc ≤ desc.toNat then raise .busErr i s else okRead (word (descAt s.params desc)) s

/-- `VP.RESOLVE desc` (40_virtual_port_model.md R90). -/
def execVpResolve (desc : DescIdx) (s : State) : Out := readWindow (.vpResolve desc) desc resolveWord s

/-- `VP.POL desc` (40_virtual_port_model.md R91). -/
def execVpPol (desc : DescIdx) (s : State) : Out := readWindow (.vpPol desc) desc polWord s

end Sys2Proof.Machine
end

