-- ==== Sys2Proof/Machine/Dispatch.lean ====
section
/-! DEFINITION. The dispatch: one arm per operation of the map (30_encoding.md R73 step 5), each a direct call of its
meaning. -/

namespace Sys2Proof.Machine

def exec (i : Instr) (s : State) : Host.Outcome State Fault Refusal :=
  match i with
  | .ptConfigure p => Sys2Proof.Machine.execPtConfigure p s
  | .ptStart => Sys2Proof.Machine.execPtStart s
  | .ptStop => Sys2Proof.Machine.execPtStop s
  | .ptStatus => Sys2Proof.Machine.execPtStatus s
  | .rtArm d => Sys2Proof.Machine.execRtArm d s
  | .rtDisarm => Sys2Proof.Machine.execRtDisarm s
  | .rtStatus => Sys2Proof.Machine.execRtStatus s
  | .vstEnable b => Sys2Proof.Machine.execVstEnable b s
  | .vstSetDuty v => Sys2Proof.Machine.execVstSetDuty v s
  | .vstIsEnabled => Sys2Proof.Machine.execVstIsEnabled s
  | .vstStatus => Sys2Proof.Machine.execVstStatus s
  | .dtArm => Sys2Proof.Machine.execDtArm s
  | .dtDisarm => Sys2Proof.Machine.execDtDisarm s
  | .dtStatus => Sys2Proof.Machine.execDtStatus s
  | .gpInit desc => Sys2Proof.Machine.execGpInit desc s
  | .gpWrite desc val => Sys2Proof.Machine.execGpWrite desc val s
  | .gpWritePin desc val => Sys2Proof.Machine.execGpWritePin desc val s
  | .gpSetPullup desc val => Sys2Proof.Machine.execGpSetPullup desc val s
  | .gpChangeInt desc val => Sys2Proof.Machine.execGpChangeInt desc val s
  | .cbRegister src handle => Sys2Proof.Machine.execCbRegister src handle s
  | .cbRead src => Sys2Proof.Machine.execCbRead src s
  | .irqPending => Sys2Proof.Machine.execIrqPending s
  | .irqTake src => Sys2Proof.Machine.execIrqTake src s
  | .irqDone src => Sys2Proof.Machine.execIrqDone src s
  | .cfgSet k v => Sys2Proof.Machine.execCfgSet k v s
  | .cfgGet k => Sys2Proof.Machine.execCfgGet k s
  | .errStatus => Sys2Proof.Machine.execErrStatus s
  | .errInfo => Sys2Proof.Machine.execErrInfo s
  | .rawDir loc => Sys2Proof.Machine.execRawDir loc s
  | .rawOut loc => Sys2Proof.Machine.execRawOut loc s
  | .rawIn loc => Sys2Proof.Machine.execRawIn loc s
  | .rawPue loc => Sys2Proof.Machine.execRawPue loc s
  | .rawPcmsk loc => Sys2Proof.Machine.execRawPcmsk loc s
  | .invSet loc m => Sys2Proof.Machine.execInvSet loc m s
  | .invGet loc => Sys2Proof.Machine.execInvGet loc s
  | .gpRead desc => Sys2Proof.Machine.execGpRead desc s
  | .vpResolve desc => Sys2Proof.Machine.execVpResolve desc s
  | .vpPol desc => Sys2Proof.Machine.execVpPol desc s

end Sys2Proof.Machine
end

