-- ==== Sys2Proof/Machine/Ticks.lean ====
section
/-! DEFINITION. The events that are not transactions (00_scope.md R7, 70_reset_and_hazards.md R230): the three clock
ticks, the pad event and the reset event. -/

namespace Sys2Proof.Machine

/-- The `TickT` event: the Pulse Timer part and the Reset Timer part of one event (42_pulse_timer.md R127,
43_reset_timer.md R144). -/
def tickT (s : State) : State := rtTick (ptTick s)

/-- The `TickV` event (44_spindle_pwm.md R160). -/
def tickV (s : State) : State := vstTick s

/-- The `TickD` event (45_debounce_timer.md R174). -/
def tickD (s : State) : State := dtTick s

/-- `n` consecutive `TickT` events (30_encoding.md R77, `TICKT n`). -/
def ticksT : Nat → State → State
  | 0, s => s
  | n + 1, s => tickT (ticksT n s)

/-- `n` consecutive `TickV` events. -/
def ticksV : Nat → State → State
  | 0, s => s
  | n + 1, s => tickV (ticksV n s)

/-- `n` consecutive `TickD` events. -/
def ticksD : Nat → State → State
  | 0, s => s
  | n + 1, s => tickD (ticksD n s)

end Sys2Proof.Machine
end

