-- ==== Sys2Proof/Machine/Step.lean ====
section
/-! DEFINITION. One step of the model: the next event of the schedule happens, in one atomic event (00_scope.md R7,
20_memory.md R54, R58). With no event left nothing happens and the state stays (70_reset_and_hazards.md R243, log 4). -/

namespace Sys2Proof.Machine

/-- A `Bus(X)` event: decode, then the operation, or the illegal transaction (30_encoding.md R73). -/
def bus (x : Xact) (s : State) : Host.Outcome State Fault Refusal :=
  match decode x with
  | .ok i => exec i s
  | .error _ => illegal x s

/-- One step. -/
def step (s : State) : Host.Outcome State Fault Refusal :=
  match fetch s with
  | none => .next s
  | some (.bus x, s') => bus x s'
  | some (.tickT, s') => .next (tickT s')
  | some (.tickV, s') => .next (tickV s')
  | some (.tickD, s') => .next (tickD s')
  | some (.pad loc v, s') => .next (padEvent loc v s')
  | some (.reset, s') => .next (resetEvent s')

/-- The state in which the very next event is the transaction whose word is the number `w` of `nbits` bits
(30_encoding.md R70). It stands for the host's issuing that transaction (log 4). -/
def State.withFetchWord (s : State) (nbits w : Nat) : State :=
  s.setSchedule (.bus (BitVec.ofNat 47 (w % 2 ^ nbits)) :: s.schedule)

end Sys2Proof.Machine
end

