-- ==== Sys2Proof/WellFormed.lean ====
section
/-! DEFINITION. The checks of the spec on what is given from outside: the ranges of the parameters
(00_scope.md R4), the invariants of the descriptor table (10_state.md R19), the address ranges of an
operation (30_encoding.md R73 step 4), and the host's build-time check that a descriptor is bound and of the
right kind and direction (40_virtual_port_model.md R92, 70_reset_and_hazards.md R237). -/

namespace Sys2Proof

/-- One entry of the table on its own (10_state.md R18, R19); an entry that is not bound is not constrained. -/
abbrev Descriptor.Ok (p : Params) (d : Descriptor) : Prop :=
  d.valid = true →
    d.loc.toNat < p.nloc ∧ d.mask ≠ 0 ∧ d.mask.toNat < 2 ^ p.portW ∧ d.pol &&& ~~~d.mask = 0 ∧
    (d.kind = .pin → d.bitpos.toNat < p.portW ∧ d.mask = 1#16 <<< d.bitpos.toNat) ∧
    (d.kind = .group → d.bitpos = 0)

/-- Two entries of the table (10_state.md R19): "two valid entries with the same `loc` and overlapping `mask`
must be a group and one of its own member pins (same `dir`, same `pol` on the shared bit)". -/
abbrev Descriptor.Compatible (d e : Descriptor) : Prop :=
  d.valid = true → e.valid = true → d.loc = e.loc → d.mask &&& e.mask ≠ 0 →
    d.kind ≠ e.kind ∧ d.dir = e.dir ∧ (d.pol ^^^ e.pol) &&& (d.mask &&& e.mask) = 0

/-- The prescaler table (00_scope.md R4, row `PT_SHIFTS`). -/
abbrev Params.ShiftsOk (p : Params) : Prop :=
  (1 ≤ p.ptShifts.length ∧ p.ptShifts.length ≤ 8) ∧ p.ptShifts.head? = some 0 ∧
  (p.ptShifts.zip p.ptShifts.tail).all (fun ab => ab.1 < ab.2 && ab.2 ≤ ab.1 + p.ptW) = true

/-- The machine profile (00_scope.md R4, rows `PROFILE.*`; 10_state.md R19). -/
abbrev Params.ProfileOk (p : Params) : Prop :=
  (1 ≤ p.ndesc ∧ p.ndesc ≤ 256) ∧ (∀ d ∈ p.profile.desc, d.Ok p) ∧
  p.profile.desc.Pairwise Descriptor.Compatible ∧
  (p.profile.desc[p.profile.vstPin]?.any (fun d => d.valid && d.kind = .pin && d.dir = .output)) = true ∧
  (∀ l : Fin 8, (p.profile.inv.get l).toNat < 2 ^ p.portW ∧ (p.nloc ≤ l.val → p.profile.inv.get l = 0)) ∧
  p.profile.pwmOff < 2 ^ p.vstW ∧ p.profile.pwmMax < 2 ^ p.vstW ∧ p.profile.pwmMin < 2 ^ p.vstW ∧
  p.profile.debounce < 2 ^ p.dtW

/-- The widths and counts (00_scope.md R4). -/
abbrev Params.WidthsOk (p : Params) : Prop :=
  (3 ≤ p.ptW ∧ p.ptW ≤ 16) ∧ 1 ≤ p.ptPeriodMin ∧ (1 ≤ p.rtW ∧ p.rtW ≤ 16) ∧ p.rtShift ≤ 10 ∧
  (1 ≤ p.vstW ∧ p.vstW ≤ 16) ∧ (1 ≤ p.dtW ∧ p.dtW ≤ 16) ∧ (1 ≤ p.portW ∧ p.portW ≤ 16) ∧
  (1 ≤ p.nloc ∧ p.nloc ≤ 8)

/-- Every parameter is in its range (00_scope.md R4) and the profile keeps 10_state.md R19. -/
structure Params.Ok (p : Params) : Prop where
  widths : p.WidthsOk
  shifts : p.ShiftsOk
  profile : p.ProfileOk

/-- The check of `Params.Ok`. -/
def Params.check (p : Params) : Bool := decide p.WidthsOk && decide p.ShiftsOk && decide p.ProfileOk

/-- The host's policy names every source once (00_scope.md R4: "any total order"). -/
abbrev HostPolicy.Ok (h : HostPolicy) : Prop :=
  h.order.Nodup ∧ ∀ src ∈ [Src.pulse, .reset, .debounce, .change], src ∈ h.order

/-- The range checks that belong to the address (30_encoding.md R73 step 4). An operation that fails them is
the illegal transaction `BUS_ERR` (60_exceptions.md R204). -/
def Instr.WellFormed (p : Params) : Instr → Bool
  | .rawDir loc | .rawOut loc | .rawIn loc | .rawPue loc | .rawPcmsk loc | .invSet loc _ | .invGet loc =>
    loc.toNat < p.nloc
  | .gpRead desc | .vpResolve desc | .vpPol desc => desc.toNat < p.ndesc
  | .ptConfigure _ | .ptStart | .ptStop | .ptStatus | .rtArm _ | .rtDisarm | .rtStatus | .vstEnable _
  | .vstSetDuty _ | .vstIsEnabled | .vstStatus | .dtArm | .dtDisarm | .dtStatus | .gpInit _ | .gpWrite _ _
  | .gpWritePin _ _ | .gpSetPullup _ _ | .gpChangeInt _ _ | .cbRegister _ _ | .cbRead _ | .irqPending
  | .irqTake _ | .irqDone _ | .cfgSet _ _ | .cfgGet _ | .errStatus | .errInfo => true

/-- The entry of index `desc` is bound, of a kind in `kinds` and of a direction in `dirs`. -/
def Params.Bound (p : Params) (desc : DescIdx) (kinds : List Kind) (dirs : List Dir) : Bool :=
  p.profile.desc[desc.toNat]?.any (fun d => d.valid && kinds.contains d.kind && dirs.contains d.dir)

/-- The check of the host's build (40_virtual_port_model.md R92, 70_reset_and_hazards.md R237): "The host must
pass only indices whose entries are valid, groups to GP.WRITE and GP.CHANGE_INT, pins to GP.WRITE_PIN,
outputs to both write operations." -/
def Instr.Resolved (p : Params) : Instr → Bool
  | .gpInit desc | .gpSetPullup desc _ | .gpRead desc => p.Bound desc [.pin, .group] [.input, .output]
  | .gpWrite desc _ => p.Bound desc [.group] [.output]
  | .gpWritePin desc _ => p.Bound desc [.pin] [.output]
  | .gpChangeInt desc _ => p.Bound desc [.group] [.input, .output]
  | .ptConfigure _ | .ptStart | .ptStop | .ptStatus | .rtArm _ | .rtDisarm | .rtStatus | .vstEnable _
  | .vstSetDuty _ | .vstIsEnabled | .vstStatus | .dtArm | .dtDisarm | .dtStatus | .cbRegister _ _ | .cbRead _
  | .irqPending | .irqTake _ | .irqDone _ | .cfgSet _ _ | .cfgGet _ | .errStatus | .errInfo | .rawDir _
  | .rawOut _ | .rawIn _ | .rawPue _ | .rawPcmsk _ | .invSet _ _ | .invGet _ | .vpResolve _ | .vpPol _ => true

end Sys2Proof
end

