-- ==== Sys2Proof/Safety.lean ====
section
/-! DEFINITION. The terms claims are stated in: the invariant of the state, the refusal of bad parameters, when a source
fires, the runs the spec marks as faulted (93_implementation_defined.md, treatment `fault`), and the duties of the host
(70_reset_and_hazards.md R233 to R238, 60_exceptions.md R211). Nothing here changes what `step` does. -/

namespace Sys2Proof.Machine

/-- The Pulse Timer invariants of 10_state.md R12, with the widths of R11. -/
abbrev PulseTimer.Inv (P : Params) (t : PulseTimer) : Prop :=
  (t.state ≠ .running → t.cnt = 0 ∧ t.div = 0 ∧ t.psel = 0) ∧
  (t.state = .running → t.cnt ≤ t.cmp ∧ t.div < 2 ^ P.ptShift t.psel ∧ t.valid = true) ∧
  (t.state = .armed → t.valid = true) ∧
  t.psel < P.ptShifts.length ∧ t.pselB < P.ptShifts.length ∧ t.cmp < 2 ^ P.ptW ∧ t.cmpB < 2 ^ P.ptW

/-- The Reset Timer invariants of 10_state.md R13, with its widths. -/
abbrev ResetTimer.Inv (P : Params) (t : ResetTimer) : Prop :=
  (t.state = .idle → t.cnt = 0 ∧ t.div = 0) ∧ (t.state = .armed → 1 ≤ t.cnt) ∧
  t.div < 2 ^ P.rtShift ∧ t.cnt < 2 ^ P.rtW ∧ t.load < 2 ^ P.rtW

/-- The Spindle PWM Timer invariants of 10_state.md R14, with its widths. -/
abbrev SpindleTimer.Inv (P : Params) (t : SpindleTimer) : Prop :=
  (t.en = false → t.cnt = 0) ∧ t.cnt < 2 ^ P.vstW ∧ t.duty < 2 ^ P.vstW

/-- The Debounce Timer invariants of 10_state.md R15, with its widths. -/
abbrev DebounceTimer.Inv (P : Params) (t : DebounceTimer) : Prop :=
  (t.state = .idle → t.cnt = 0) ∧ (t.state = .armed → 1 ≤ t.cnt) ∧ t.cnt < 2 ^ P.dtW ∧ t.load < 2 ^ P.dtW

/-- The widths of the configuration registers (10_state.md R20). -/
abbrev CfgRegs.Inv (P : Params) (c : CfgRegs) : Prop :=
  c.pwmOff < 2 ^ P.vstW ∧ c.pwmMax < 2 ^ P.vstW ∧ c.pwmMin < 2 ^ P.vstW ∧ c.debounce < 2 ^ P.dtW

/-- A port pattern of `PORT_W` bits: nothing above them. -/
abbrev portFits (P : Params) (v : Port) : Prop := v &&& ~~~P.portMask = 0

/-- The registers of a location hold `PORT_W` bits each (10_state.md R16). -/
abbrev PortRegs.Fits (P : Params) (r : PortRegs) : Prop :=
  portFits P r.dir ∧ portFits P r.out ∧ portFits P r.pue ∧ portFits P r.pcmsk ∧ portFits P r.inv

/-- The registers of a location that does not exist. -/
def PortRegs.none : PortRegs := { dir := 0, out := 0, pue := 0, pcmsk := 0, inv := 0 }

/-- A source in service was registered, and a source not registered has no handle (10_state.md R21, 46_system_ops.md
R180, R183). -/
abbrev IrqBits.Inv (b : IrqBits) : Prop := (b.inserv = true → b.reg = true) ∧ (b.reg = false → b.cbvec = 0)

/-- The invariant of the block: the parameters are in range, every register is within its width and the relations
of 10_state.md R12 to R15 hold. -/
structure State.Inv (s : State) : Prop where
  params : s.params.Ok
  pt : s.pt.Inv s.params
  rt : s.rt.Inv s.params
  vst : s.vst.Inv s.params
  dt : s.dt.Inv s.params
  cfg : s.cfg.Inv s.params
  /-- Every port register and every pad level fits `PORT_W` bits. -/
  ports : ∀ loc : Loc, (s.port loc).Fits s.params ∧ portFits s.params (s.pad loc)
  /-- The locations from `NLOC` on hold nothing. -/
  absent : ∀ loc : Loc, s.params.nloc ≤ loc.toNat → s.port loc = PortRegs.none ∧ s.pad loc = 0
  irq : ∀ src : Src, (s.irq.get src).Inv

/-- Starting a machine with given parameters, pads and events: parameters or a table outside their ranges are refused
before the run (93_implementation_defined.md U9). -/
def boot (p : Params) (pads : Vector Port 8) (es : List Event) : Out :=
  if p.check then .next (State.resetWith p pads es) else .refused .badParameters

/-- The base ticks since the last match or start: `PT.CNT` prescaled ticks and `PT.DIV` base ticks. -/
def PulseTimer.elapsed (P : Params) (t : PulseTimer) : Nat := t.cnt <<< P.ptShift t.psel + t.div

/-- The next base tick is a compare match (42_pulse_timer.md R121, R127). -/
abbrev State.pulseFires (s : State) : Prop :=
  s.pt.state = .running ∧ 2 ^ s.params.ptShift s.pt.psel ≤ s.pt.div + 1 ∧ s.pt.cmp ≤ s.pt.cnt

/-- The next base tick is the Reset Timer's match (43_reset_timer.md R144). -/
abbrev State.resetFires (s : State) : Prop :=
  s.rt.state = .armed ∧ 2 ^ s.params.rtShift ≤ s.rt.div + 1 ∧ s.rt.cnt ≤ 1

/-- The next base tick sets the sticky bit `n` (60_exceptions.md R208, in the fires of R127 and R144): an overrun bit of a
source that fires while pending, `NOCB` for a source that fires without a callback. -/
abbrev State.tickSets (s : State) (n : Nat) : Prop :=
  (n = 4 ∧ s.pulseFires ∧ s.irq.pulse.pend = true) ∨ (n = 5 ∧ s.resetFires ∧ s.irq.reset.pend = true) ∨
  (n = 9 ∧ ((s.pulseFires ∧ s.irq.pulse.reg = false) ∨ (s.resetFires ∧ s.irq.reset.reg = false)))

/-- All that a base tick may change: the two timers, their pending bits and the sticky bits. -/
abbrev State.SameButBaseTimers (s t : State) : Prop :=
  t = { s with
    pt := t.pt
    rt := t.rt
    irq := { s.irq with
      pulse := { s.irq.pulse with pend := t.irq.pulse.pend }
      reset := { s.irq.reset with pend := t.irq.reset.pend } }
    err := { s.err with status := t.err.status } }

/-- The next debounce tick ends the window (45_debounce_timer.md R174). -/
abbrev State.debounceFires (s : State) : Prop := s.dt.state = .armed ∧ s.dt.cnt ≤ 1

/-- The operation an event issues, if it is a legal transaction. -/
def Event.instr? : Event → Option Instr
  | .bus x => (decode x).toOption
  | .tickT | .tickV | .tickD | .pad _ _ | .reset => none

/-- The event is a transaction. -/
def Event.isBus : Event → Bool
  | .bus _ => true
  | .tickT | .tickV | .tickD | .pad _ _ | .reset => false

/-- The fault a state shows, if any: a sticky bit by which the spec marks the run as faulted
(93_implementation_defined.md U4, U8, U14). -/
def State.markedFault (s : State) : Option Fault :=
  if s.err.status.getLsbD widthBit then some .widthGePeriod
  else if s.err.status.getLsbD (overrunBit .pulse) then some (.overrun .pulse)
  else if s.err.status.getLsbD (overrunBit .reset) then some (.overrun .reset)
  else if s.err.status.getLsbD (overrunBit .debounce) then some (.overrun .debounce)
  else if s.err.status.getLsbD (overrunBit .change) then some (.overrun .change)
  else if s.err.status.getLsbD nocbBit then some .noCallback
  else none

/-- A transaction issued in interrupt context that does not answer `OK` (93_implementation_defined.md U5). -/
def interruptFault (s s' : State) : Option Fault :=
  match s.schedule.head?, s'.answer.resp with
  | some e, .err c => if e.isBus && s.irq.inInterrupt then some (.errorInInterrupt c) else none
  | _, _ => none

/-- The step of a model that stops at the first fault of the host, for claims about unfaulted runs
(93_implementation_defined.md, treatment `fault`). The step of the block is `step`. -/
def strictStep (s : State) : Out :=
  match step s with
  | .next s' =>
    match interruptFault s s', s'.markedFault with
    | some f, _ => .fault f
    | none, some f => .fault f
    | none, none => .next s'
  | .fault f => .fault f
  | .refused r => .refused r

/-- R233: the width of an arm issued while the pulse timer runs is below the active period, and so are the ticks
already elapsed plus the width (70_reset_and_hazards.md R233). -/
def dutyWidth (s : State) : Instr → Bool
  | .rtArm d =>
    s.pt.state != .running ||
      (rtDelay s.params d <<< s.params.rtShift < s.pt.period s.params &&
        s.pt.elapsed s.params + rtDelay s.params d <<< s.params.rtShift < s.pt.period s.params)
  | _ => true

/-- R235: PT.CONFIGURE only from Idle or Running. -/
def dutyConfigure (s : State) : Instr → Bool
  | .ptConfigure _ => s.pt.state != .armed
  | _ => true

/-- R237: only resolved descriptors of the right kind and direction. -/
def dutyResolved (s : State) (i : Instr) : Bool := i.Resolved s.params

/-- R238: `CFG.PWM_OFF` ≤ `CFG.PWM_MAX` before a VST.SET_DUTY. -/
def dutyRange (s : State) : Instr → Bool
  | .vstSetDuty _ => s.cfg.pwmOff ≤ s.cfg.pwmMax
  | _ => true

/-- The duties of the host that can be read off one operation and the state it is issued in. R232 and R234 show as
the faults `noCallback` and `overrun`; R236 (critical sections) leaves no trace in the block (log 18). -/
def dutiesKept (s : State) (i : Instr) : Bool :=
  dutyWidth s i && dutyConfigure s i && dutyResolved s i && dutyRange s i

/-- A host of policy `h` may take the request of `src`: its line is high, no request that `IRQ_ORDER` puts before it
is waiting, and either nothing is in service or the host nests (60_exceptions.md R211, R214; log 14). -/
def HostPolicy.mayTake (h : HostPolicy) (s : State) (src : Src) : Bool :=
  (s.irq.get src).line && (h.nesting || !s.irq.inInterrupt) &&
    (h.order.takeWhile (fun q => q ≠ src)).all (fun q => !(s.irq.get q).line)

end Sys2Proof.Machine
end

