-- ==== Sys2Proof/Certificates/Slice0/Obligations.lean ====
section
/-! DEFINITION. The statements for the provers, each from a numbered rule of spec/ or derived from the sections its
entry in OBLIGATIONS.json cites. `Xact.pack 2 1 off data` is the write transaction `MemWrite(off, 4, data)` and
`Xact.pack 2 0 off data` the read of `off`, whose data bits are ignored (30_encoding.md R70, R74). A failing
transaction leaves the state `fail e x s`; what that is, `FailureChangesOnlyErrorRecord` says. -/

open Sys2Proof Sys2Proof.Machine

/-! ## Decoding and the step -/

/-- R73 step 5: a step on a legal transaction is the operation it decodes to, run on the state without that event. -/
def Obligations.StepRunsDecodedTransaction : Prop :=
  ∀ (s : State) (x : Xact) (es : List Event) (i : Instr), s.schedule = .bus x :: es → decode x = .ok i →
    step s = exec i { s with schedule := es } ∧
    ∀ (nbits w : Nat), decodeTableWord nbits w = some i → step (s.withFetchWord nbits w) = exec i s

/-- R70 to R73, R80: decoding the word of any operation, with every operand at every value, gives the operation. -/
def Obligations.DecodeEncodeRoundTrip : Prop := ∀ i : Instr, decode (encode i) = .ok i

/-- R70, R71, R80: a word that decodes to an operation has the size, direction and offset of that operation's word. -/
def Obligations.EncodeRecoversHeader : Prop :=
  ∀ (x : Xact) (i : Instr), decode x = .ok i →
    (encode i).sz = x.sz ∧ (encode i).wr = x.wr ∧ (encode i).off = x.off

/-- R73: "the rows are disjoint, so at most one matches". -/
def Obligations.MapRowsDisjoint : Prop :=
  opMap.Pairwise fun r q => ∀ x : Xact, ¬ (x &&& r.mask = r.pattern ∧ x &&& q.mask = q.pattern)

/-- R74: two words with the same size, direction and offset that agree on the bits their format does not ignore
decode alike and do the same to every state. -/
def Obligations.IgnoredBitsHaveNoEffect : Prop :=
  ∀ x y : Xact, x.header = y.header →
    (x.wr = 0 ∨ x.off ∈ [(0x004 : BitVec 12), 0x008, 0x014, 0x030, 0x034] ∨
      (x.off = 0x020 ∧ x.data.getLsbD 0 = y.data.getLsbD 0) ∨
      (x.off ∈ [(0x074 : BitVec 12), 0x078] ∧ x.data.extractLsb' 0 2 = y.data.extractLsb' 0 2) ∨
      (x.off ∈ [(0x040 : BitVec 12), 0x044, 0x048, 0x04C, 0x050] ∧
        x.data.extractLsb' 24 8 = y.data.extractLsb' 24 8 ∧ x.data.extractLsb' 0 16 = y.data.extractLsb' 0 16)) →
    decode x = decode y ∧ ∀ s : State, bus x s = bus y s

/-- R80 and 95_test_vectors.md: words written out from the encoding decode to the operations they stand for. -/
def Obligations.SampleWordsDecode : Prop :=
  decode 0x5000000004B0 = .ok (.ptConfigure 1200) ∧ decode 0x440800000000 = .ok (.gpRead 2) ∧
  decode 0x501000000050 = .ok (.rtArm 80) ∧ decode 0x5020FFFFFFFE = .ok (.vstEnable false) ∧
  decode 0x503000000000 = .ok .dtArm ∧ decode 0x504C05000001 = .ok (.gpSetPullup 5 1) ∧
  decode 0x4C1400000000 = .ok (.vpPol 5) ∧ decode 0x506000001000 = .ok (.cbRegister .pulse 0x1000) ∧
  decode 0x507800000002 = .ok (.irqDone .debounce) ∧ decode 0x508C000186A0 = .ok (.cfgSet .debounce 100000) ∧
  decode 0x51A800000020 = .ok (.invSet 2 0x20) ∧ decode 0x418400000000 = .ok (.rawPcmsk 1)

/-! ## Failing transactions -/

/-- R204: the causes of `BUS_ERR`, complete. -/
def Obligations.BusErrorExactlyWhenIllegal : Prop :=
  ∀ (s : State) (x : Xact) (es : List Event), s.schedule = .bus x :: es →
    ∃ t, step s = .next t ∧
      (t.answer.resp = .err .busErr ↔
        (x.sz ≠ 2 ∨ x.off.extractLsb' 0 2 ≠ 0 ∨ (∀ r ∈ opMap, x &&& r.mask ≠ r.pattern) ∨
          ∃ i, decode x = .ok i ∧ i.WellFormed s.params = false))

/-- R205: a transaction whose response is not `OK` sets the sticky bit of its class, writes `ERR.INFO` with its size,
code, direction and offset, returns read data 0, and changes nothing else. -/
def Obligations.FailureChangesOnlyErrorRecord : Prop :=
  ∀ (s t : State) (x : Xact) (es : List Event) (e : Err), s.schedule = .bus x :: es → step s = .next t →
    t.answer.resp = .err e →
    ∀ n code, (n, code) = (match e with
      | .cfgErr => ((0 : Nat), (1 : BitVec 3)) | .stateErr => (1, 2) | .badDesc => (2, 3) | .busErr => (3, 4)) →
    t = { s with
      schedule := es
      err := { status := s.err.status ||| (1#10 <<< n), info := x.sz ++ code ++ x.wr ++ x.off }
      answer := ⟨.err e, 0⟩ }

/-- R201 to R203: the causes of `CFG_ERR`, `STATE_ERR` and `BAD_DESC`, complete. -/
def Obligations.ErrorCausesComplete : Prop :=
  ∀ (s : State) (i : Instr), s.Inv → ∃ t, exec i s = .next t ∧
    (t.answer.resp = .err .cfgErr ↔
      (i = .ptConfigure 0 ∧ (s.pt.state = .idle ∨ s.pt.state = .running)) ∨
      (i = .ptStart ∧ s.pt.state = .idle ∧ s.pt.valid = false)) ∧
    (t.answer.resp = .err .stateErr ↔
      (∃ p, i = .ptConfigure p ∧ s.pt.state = .armed) ∨
      (∃ src h, i = .cbRegister src h ∧ (s.irq.get src).reg = true) ∨
      (∃ src, i = .irqTake src ∧ (s.irq.get src).line = false) ∨
      (∃ src, i = .irqDone src ∧ (s.irq.get src).inserv = false)) ∧
    (t.answer.resp = .err .badDesc ↔ i.WellFormed s.params = true ∧ i.Resolved s.params = false)

/-- R243 and R205: the block never stops accepting events; every step has a next state. That holds in every state by
two choices of the model: the runs that U4, U5, U8 and U14 call faulted go on (log 10), and the step does not refuse
parameters out of range, which `boot` refuses (log 12). -/
def Obligations.StepNeverStops : Prop := ∀ s : State, ∃ t, step s = .next t

/-! ## Invariants of the whole block -/

/-- R12 to R20: the invariant of the state is kept by every event, for all parameters. -/
def Obligations.StepKeepsInvariant : Prop := ∀ s t : State, s.Inv → step s = .next t → t.Inv

/-- R26, R12: after reset the invariant holds, for all parameters in range and all pad levels of `PORT_W` bits. -/
def Obligations.ResetEstablishesInvariant : Prop :=
  ∀ (p : Params) (pads : Vector Port 8) (es : List Event), p.Ok →
    (∀ l : Fin 8, portFits p (pads.get l) ∧ (p.nloc ≤ l.val → pads.get l = 0)) → (State.resetWith p pads es).Inv

/-- The invariant holds in `State.reset`, whose parameters and pad levels are the model's choice (log 2, log 3). -/
def Obligations.ResetStateInvariant : Prop := State.reset.Inv

/-- R94: no event changes the descriptor table (nor any parameter), the two windows answer the same before and after
every event, and a write to either window is answered with `BUS_ERR`. -/
def Obligations.DescriptorTableImmutable : Prop :=
  (∀ s t : State, step s = .next t → t.params = s.params ∧
    ∀ desc, (∃ u v, exec (.vpResolve desc) s = .next u ∧ exec (.vpResolve desc) t = .next v ∧ u.answer = v.answer) ∧
      ∃ u v, exec (.vpPol desc) s = .next u ∧ exec (.vpPol desc) t = .next v ∧ u.answer = v.answer) ∧
  ∀ (s : State) (es : List Event) (off : BitVec 12) (data : Word), 0x800 ≤ off.toNat →
    s.schedule = .bus (Xact.pack 2 1 off data) :: es →
    step s = .next (fail .busErr (Xact.pack 2 1 off data) { s with schedule := es })

/-- R26, R230: the reset event gives every register the value of the table, keeps the pads and the descriptor table, and
leaves all four request lines low; R231: after it no tick changes anything. The answer field is the model's (log 5). -/
def Obligations.ResetEventValues : Prop :=
  ∀ (s : State) (es : List Event), s.schedule = .reset :: es →
    ∃ t, step s = .next t ∧
      t.pt = { state := .idle, valid := false, pselB := 0, cmpB := 0, psel := 0, cmp := 0, div := 0, cnt := 0 } ∧
      t.rt = { state := .idle, cnt := 0, div := 0, load := 0 } ∧ t.vst = { en := false, duty := 0, cnt := 0 } ∧
      t.dt = { state := .idle, cnt := 0, load := 0 } ∧
      (∀ loc, t.port loc = { dir := 0, out := 0, pue := 0, pcmsk := 0, inv := s.params.profile.inv.get loc.toFin }) ∧
      t.cfg = { pwmOff := s.params.profile.pwmOff, pwmMax := s.params.profile.pwmMax,
                pwmMin := s.params.profile.pwmMin, debounce := s.params.profile.debounce } ∧
      (∀ src, t.irq.get src = { pend := false, inserv := false, reg := false, cbvec := 0 } ∧
        (t.irq.get src).line = false) ∧
      t.err = { status := 0, info := 0 } ∧ t.pads = s.pads ∧ t.params = s.params ∧ t.schedule = es ∧
      tickT t = t ∧ tickV t = t ∧ tickD t = t

/-- R22, R25: a sticky bit is cleared only by reset. -/
def Obligations.StickyBitsOnlyClearedByReset : Prop :=
  ∀ s t : State, step s = .next t → s.schedule.head? ≠ some .reset →
    ∀ n : Nat, s.err.status.getLsbD n = true → t.err.status.getLsbD n = true

/-- R216: after PT.STOP, RT.DISARM or DT.DISARM the timer is idle with nothing pending, and the service of a request
taken before goes on; and a request that is not pending becomes pending only in the tick in which its timer, started or
armed again, expires. -/
def Obligations.CancelledRequestStaysCancelled : Prop :=
  ∀ s : State,
    (∃ t, exec .ptStop s = .next t ∧ t.pt.state = .idle ∧ t.irq.pulse = { s.irq.pulse with pend := false }) ∧
    (∃ t, exec .rtDisarm s = .next t ∧ t.rt.state = .idle ∧ t.irq.reset = { s.irq.reset with pend := false }) ∧
    (∃ t, exec .dtDisarm s = .next t ∧ t.dt.state = .idle ∧ t.irq.debounce = { s.irq.debounce with pend := false }) ∧
    ∀ t, step s = .next t →
      (s.irq.pulse.pend = false → t.irq.pulse.pend = true → s.pulseFires ∧ s.schedule.head? = some .tickT) ∧
      (s.irq.reset.pend = false → t.irq.reset.pend = true → s.resetFires ∧ s.schedule.head? = some .tickT) ∧
      (s.irq.debounce.pend = false → t.irq.debounce.pend = true →
        s.debounceFires ∧ s.schedule.head? = some .tickD)

/-- R27, R128, R145: each piece of state is changed only by the events of its owning component (and by reset): the timers
by their own operations and ticks, the port registers by the GPIO Engine, the pads by the environment, the invert masks
and the configuration by INV.SET and CFG.SET, the callbacks by CB.REGISTER. -/
def Obligations.StateIsOwned : Prop :=
  ∀ (s t : State) (e : Event) (es : List Event), s.schedule = e :: es → e ≠ .reset → step s = .next t →
    (t.pt ≠ s.pt → e = .tickT ∨ e.instr? = some .ptStart ∨ e.instr? = some .ptStop ∨
      ∃ p, e.instr? = some (.ptConfigure p)) ∧
    (t.rt ≠ s.rt → e = .tickT ∨ e.instr? = some .rtDisarm ∨ ∃ d, e.instr? = some (.rtArm d)) ∧
    (t.vst ≠ s.vst → e = .tickV ∨ (∃ b, e.instr? = some (.vstEnable b)) ∨ ∃ v, e.instr? = some (.vstSetDuty v)) ∧
    (t.dt ≠ s.dt → e = .tickD ∨ e.instr? = some .dtArm ∨ e.instr? = some .dtDisarm) ∧
    (t.pads ≠ s.pads → ∃ loc v, e = .pad loc v) ∧
    (t.cfg ≠ s.cfg → ∃ k v, e.instr? = some (.cfgSet k v)) ∧
    (∀ loc, (t.port loc).inv ≠ (s.port loc).inv → ∃ m, e.instr? = some (.invSet loc m)) ∧
    (∀ loc, (t.port loc).dir ≠ (s.port loc).dir → ∃ desc, e.instr? = some (.gpInit desc)) ∧
    (∀ loc, (t.port loc).out ≠ (s.port loc).out →
      ∃ desc v, e.instr? = some (.gpWrite desc v) ∨ e.instr? = some (.gpWritePin desc v)) ∧
    (∀ loc, (t.port loc).pue ≠ (s.port loc).pue → ∃ desc v, e.instr? = some (.gpSetPullup desc v)) ∧
    (∀ loc, (t.port loc).pcmsk ≠ (s.port loc).pcmsk → ∃ desc v, e.instr? = some (.gpChangeInt desc v)) ∧
    ∀ src, ((t.irq.get src).reg ≠ (s.irq.get src).reg ∨ (t.irq.get src).cbvec ≠ (s.irq.get src).cbvec) →
      ∃ h, e.instr? = some (.cbRegister src h)

/-- R208: what firing a source does, and all it does. -/
def Obligations.FireRecordsRequest : Prop :=
  ∀ (src : Src) (s : State),
    fire src s = { s with irq := (fire src s).irq, err := (fire src s).err } ∧
    (fire src s).irq.get src = { s.irq.get src with pend := true } ∧
    (∀ q, q ≠ src → (fire src s).irq.get q = s.irq.get q) ∧ (fire src s).err.info = s.err.info ∧
    ∀ n, n < 10 → ((fire src s).err.status.getLsbD n = true ↔
      s.err.status.getLsbD n = true ∨ (n = 4 + src.bits.toNat ∧ (s.irq.get src).pend = true) ∨
        (n = 9 ∧ (s.irq.get src).reg = false))

/-! ## Pulse Timer -/

/-- R122: the pair of a period: the smallest prescaler whose quotient fits, rounded down, or the longest period. -/
def Obligations.PulsePeriodDerivation : Prop :=
  ∀ (P : Params) (p : Nat), P.Ok → 1 ≤ p →
    ∀ sel cmp p1, (sel, cmp) = ptDerive P p → p1 = max p P.ptPeriodMin →
      sel < P.ptShifts.length ∧ cmp < 2 ^ P.ptW ∧ ticksOf cmp (P.ptShift sel) ≤ p1 ∧
      (∀ i, i < sel → 2 ^ P.ptW < p1 / 2 ^ P.ptShift i) ∧
      (p1 / 2 ^ P.ptShift sel ≤ 2 ^ P.ptW →
        cmp + 1 = p1 / 2 ^ P.ptShift sel ∧ p1 - ticksOf cmp (P.ptShift sel) < 2 ^ P.ptShift sel) ∧
      (2 ^ P.ptW < p1 / 2 ^ P.ptShift sel → sel = P.ptShifts.length - 1 ∧ cmp = 2 ^ P.ptW - 1)

/-- R123: PT.CONFIGURE in each state and for a zero and a non-zero period. -/
def Obligations.PulseConfigure : Prop :=
  (∀ p, decode (Xact.pack 2 1 0x000 p) = .ok (.ptConfigure p)) ∧
  ∀ (s : State) (p : Word),
    (s.pt.state = .armed → exec (.ptConfigure p) s = .next (fail .stateErr (encode (.ptConfigure p)) s)) ∧
    (s.pt.state ≠ .armed → p = 0 → exec (.ptConfigure p) s = .next (fail .cfgErr (encode (.ptConfigure p)) s)) ∧
    (s.pt.state = .idle → p ≠ 0 → exec (.ptConfigure p) s = .next { s with
      pt := { s.pt with pselB := (ptDerive s.params p.toNat).1, cmpB := (ptDerive s.params p.toNat).2, valid := true,
                        state := .armed }
      answer := ⟨.ok, 0⟩ }) ∧
    (s.pt.state = .running → p ≠ 0 → exec (.ptConfigure p) s = .next { s with
      pt := { s.pt with pselB := (ptDerive s.params p.toNat).1, cmpB := (ptDerive s.params p.toNat).2, valid := true }
      answer := ⟨.ok, 0⟩ })

/-- R124: PT.START while running, without a period, and with one. -/
def Obligations.PulseStart : Prop :=
  (∀ data, decode (Xact.pack 2 1 0x004 data) = .ok .ptStart) ∧
  ∀ s : State,
    (s.pt.state = .running → exec .ptStart s = .next { s with answer := ⟨.ok, 0⟩ }) ∧
    (s.pt.state ≠ .running → s.pt.valid = false → exec .ptStart s = .next (fail .cfgErr (encode .ptStart) s)) ∧
    (s.pt.state ≠ .running → s.pt.valid = true → exec .ptStart s = .next { s with
      pt := { state := .running, valid := true, pselB := s.pt.pselB, cmpB := s.pt.cmpB, psel := s.pt.pselB,
              cmp := s.pt.cmpB, div := 0, cnt := 0 }
      answer := ⟨.ok, 0⟩ })

/-- R125: PT.STOP in every state. -/
def Obligations.PulseStop : Prop :=
  (∀ data, decode (Xact.pack 2 1 0x008 data) = .ok .ptStop) ∧
  ∀ s : State, exec .ptStop s = .next { s with
    pt := { s.pt with state := .idle, psel := 0, div := 0, cnt := 0 }
    irq := { s.irq with pulse := { s.irq.pulse with pend := false } }
    answer := ⟨.ok, 0⟩ }

/-- R127: the Pulse Timer's part of the base tick, case by case, with the request it makes, every bit of the error
status after the tick (R208), and what the tick leaves alone. An armed Reset Timer with a count of 0, which R13 rules
out, is left out of the bits its fire sets (log 17). -/
def Obligations.PulseTick : Prop :=
  ∀ (s : State) (es : List Event), s.schedule = .tickT :: es →
    ∃ t, step s = .next t ∧ State.SameButBaseTimers { s with schedule := es } t ∧
      (∀ n, n < 10 → (n = 5 ∨ n = 9 → s.rt.state = .armed → 1 ≤ s.rt.cnt) →
        (t.err.status.getLsbD n = true ↔ s.err.status.getLsbD n = true ∨ s.tickSets n)) ∧
      (s.pt.state ≠ .running → t.pt = s.pt ∧ t.irq.pulse = s.irq.pulse) ∧
      (s.pt.state = .running →
        (s.pt.div + 1 < 2 ^ s.params.ptShift s.pt.psel →
          t.pt = { s.pt with div := s.pt.div + 1 } ∧ t.irq.pulse = s.irq.pulse) ∧
        (2 ^ s.params.ptShift s.pt.psel ≤ s.pt.div + 1 → s.pt.cnt < s.pt.cmp →
          t.pt = { s.pt with div := 0, cnt := s.pt.cnt + 1 } ∧ t.irq.pulse = s.irq.pulse) ∧
        (2 ^ s.params.ptShift s.pt.psel ≤ s.pt.div + 1 → s.pt.cmp ≤ s.pt.cnt →
          t.pt = { s.pt with div := 0, cnt := 0, psel := s.pt.pselB, cmp := s.pt.cmpB } ∧
          t.irq.pulse = { s.irq.pulse with pend := true }))

/-- R129: reprogramming while running: the cycle in flight ends where it would have ended, and every later fire is
exactly one new period after the one before, whatever else happens until the timer is reprogrammed, stopped or reset. -/
def Obligations.PulseReprogramGlitchFree : Prop :=
  ∀ (s t : State) (p : Word), s.Inv → s.pt.state = .running → p ≠ 0 → exec (.ptConfigure p) s = .next t →
    s.pt.elapsed s.params < s.pt.period s.params ∧
    ∀ es : List Event,
      (∀ e ∈ es, e ≠ .reset ∧ e.instr? ≠ some .ptStop ∧ ∀ q, e.instr? ≠ some (.ptConfigure q)) →
      ∃ u : State, Sys2Proof.core.run es.length { t with schedule := es } = .next u ∧
        (u.pulseFires → (tickT u).irq.pulse.pend = true) ∧
        (u.pulseFires ↔ ∃ n, es.count .tickT + 1 = (s.pt.period s.params - s.pt.elapsed s.params) +
          n * ticksOf (ptDerive s.params p.toNat).2 (s.params.ptShift (ptDerive s.params p.toNat).1))

/-- R130: after PT.STOP, then any events but a reset, PT.START and PT.CONFIGURE, then PT.START, the timer fires exactly
at the multiples of the programmed period, the first fire one whole period after the start, whatever else happens until
it is reprogrammed, stopped or reset. -/
def Obligations.PulseStopStartExactPeriod : Prop :=
  ∀ s t : State, s.Inv → s.pt.valid = true → exec .ptStop s = .next t →
    ∀ ds : List Event,
      (∀ e ∈ ds, e ≠ .reset ∧ e.instr? ≠ some .ptStart ∧ ∀ q, e.instr? ≠ some (.ptConfigure q)) →
      ∃ r u : State, Sys2Proof.core.run ds.length { t with schedule := ds } = .next r ∧ exec .ptStart r = .next u ∧
        ∀ es : List Event,
          (∀ e ∈ es, e ≠ .reset ∧ e.instr? ≠ some .ptStop ∧ ∀ q, e.instr? ≠ some (.ptConfigure q)) →
          ∃ v : State, Sys2Proof.core.run es.length { u with schedule := es } = .next v ∧
            (v.pulseFires → (tickT v).irq.pulse.pend = true) ∧
            (v.pulseFires ↔ ∃ n, es.count .tickT + 1 = (n + 1) * s.pt.program s.params)

/-! ## Reset Timer -/

/-- R141, R146, R147: RT.ARM for every delay: the clamp, the reload, the sticky width bit, and a zero delay like a delay
of one tick. -/
def Obligations.ResetArm : Prop :=
  (∀ d, decode (Xact.pack 2 1 0x010 d) = .ok (.rtArm d)) ∧
  ∀ (s : State) (d : Word), 1 ≤ s.params.rtW →
    (∀ d1, d1 = max 1 (min d.toNat (2 ^ s.params.rtW - 1)) →
      exec (.rtArm d) s = .next { s with
        rt := { state := .armed, cnt := d1, div := 0, load := d1 }
        err := { s.err with status := s.err.status |||
          (if s.pt.state = .running ∧ s.pt.period s.params ≤ d1 * 2 ^ s.params.rtShift then 0x100 else 0) }
        answer := ⟨.ok, 0⟩ }) ∧
    exec (.rtArm 0) s = exec (.rtArm 1) s

/-- R144: the Reset Timer's part of the base tick, case by case, with the request it makes, every bit of the error status
after the tick (R208), and what the tick leaves alone. An armed count of 0, which R13 rules out, is left out (log 17). -/
def Obligations.ResetTick : Prop :=
  ∀ (s : State) (es : List Event), s.schedule = .tickT :: es → (s.rt.state = .armed → 1 ≤ s.rt.cnt) →
    ∃ t, step s = .next t ∧ State.SameButBaseTimers { s with schedule := es } t ∧
      (∀ n, n < 10 → (t.err.status.getLsbD n = true ↔ s.err.status.getLsbD n = true ∨ s.tickSets n)) ∧
      (s.rt.state = .idle → t.rt = s.rt ∧ t.irq.reset = s.irq.reset) ∧
      (s.rt.state = .armed →
        (s.rt.div + 1 < 2 ^ s.params.rtShift →
          t.rt = { s.rt with div := s.rt.div + 1 } ∧ t.irq.reset = s.irq.reset) ∧
        (2 ^ s.params.rtShift ≤ s.rt.div + 1 → s.rt.cnt ≠ 1 →
          t.rt = { s.rt with div := 0, cnt := s.rt.cnt - 1 } ∧ t.irq.reset = s.irq.reset) ∧
        (2 ^ s.params.rtShift ≤ s.rt.div + 1 → s.rt.cnt = 1 →
          t.rt = { state := .idle, cnt := 0, div := 0, load := s.rt.load } ∧
          t.irq.reset = { s.irq.reset with pend := true }))

/-- R148: after an arm with effective delay `d1`, whatever else happens while the timer is not armed again, disarmed or
reset, it fires in the (`d1` << `RT_SHIFT`)-th base tick and in no other, and is idle from then on. -/
def Obligations.ResetFiresExactlyOnce : Prop :=
  ∀ (s t : State) (d : Word), s.params.Ok → exec (.rtArm d) s = .next t →
    ∀ D, D = max 1 (min d.toNat (2 ^ s.params.rtW - 1)) * 2 ^ s.params.rtShift →
    ∀ es : List Event,
      (∀ e ∈ es, e ≠ .reset ∧ e.instr? ≠ some .rtDisarm ∧ ∀ c, e.instr? ≠ some (.rtArm c)) →
      ∃ u : State, Sys2Proof.core.run es.length { t with schedule := es } = .next u ∧
        (u.resetFires → (tickT u).irq.reset.pend = true) ∧
        (u.resetFires ↔ es.count .tickT + 1 = D) ∧ (u.rt.state = .idle ↔ D ≤ es.count .tickT)

/-- R233: a reset arm whose width, with the ticks already elapsed, stays below the active pulse period keeps the width
bit as it was, and the order of events is pulse fire, reset fire, next pulse fire. -/
def Obligations.StepPulseEndsBeforeNextPulse : Prop :=
  ∀ (s t : State) (d : Word), s.Inv → s.pt.state = .running →
    ∀ D, D = max 1 (min d.toNat (2 ^ s.params.rtW - 1)) * 2 ^ s.params.rtShift →
    s.pt.elapsed s.params + D < s.pt.period s.params → exec (.rtArm d) s = .next t →
    t.err = s.err ∧
    ∀ es : List Event,
      (∀ e ∈ es, e ≠ .reset ∧ e.instr? ≠ some .rtDisarm ∧ (∀ c, e.instr? ≠ some (.rtArm c)) ∧
        e.instr? ≠ some .ptStop ∧ ∀ q, e.instr? ≠ some (.ptConfigure q)) →
      ∃ u : State, Sys2Proof.core.run es.length { t with schedule := es } = .next u ∧
        (u.resetFires ↔ es.count .tickT + 1 = D) ∧ (u.pulseFires → D < es.count .tickT + 1) ∧
        (es.count .tickT + 1 = s.pt.period s.params - s.pt.elapsed s.params → u.pulseFires)

/-! ## Spindle PWM Timer -/

/-- R156, R157: VST.ENABLE, on and off, never changes the duty; VST.SET_DUTY saturates to
[`CFG.PWM_OFF`, `CFG.PWM_MAX`], the lower bound first, and changes nothing else. -/
def Obligations.SpindleOperations : Prop :=
  (∀ data : Word, decode (Xact.pack 2 1 0x020 data) = .ok (.vstEnable (data.getLsbD 0)) ∧
    decode (Xact.pack 2 1 0x024 data) = .ok (.vstSetDuty data)) ∧
  ∀ (s : State) (v : Word),
    exec (.vstEnable true) s = .next { s with vst := { s.vst with en := true }, answer := ⟨.ok, 0⟩ } ∧
    exec (.vstEnable false) s = .next { s with vst := { s.vst with en := false, cnt := 0 }, answer := ⟨.ok, 0⟩ } ∧
    ∃ duty,
      exec (.vstSetDuty v) s = .next { s with vst := { s.vst with duty := duty }, answer := ⟨.ok, 0⟩ } ∧
      (v.toNat < s.cfg.pwmOff → duty = s.cfg.pwmOff) ∧
      (s.cfg.pwmOff ≤ v.toNat → s.cfg.pwmMax < v.toNat → duty = s.cfg.pwmMax) ∧
      (s.cfg.pwmOff ≤ v.toNat → v.toNat ≤ s.cfg.pwmMax → duty = v.toNat)

/-- R160: the spindle tick, enabled and disabled; it changes nothing but the counter and requests nothing. -/
def Obligations.SpindleTick : Prop :=
  ∀ (s : State) (es : List Event), s.schedule = .tickV :: es →
    (s.vst.en = true → step s = .next { s with
      schedule := es, vst := { s.vst with cnt := (s.vst.cnt + 1) % 2 ^ s.params.vstW } }) ∧
    (s.vst.en = false → step s = .next { s with schedule := es })

/-- R155: enabling a disabled spindle starts a fresh period; while it stays enabled, within each period of 2^`VST_W`
ticks the output is 1 for the first `VST.DUTY` ticks and 0 for the rest, with the duty as it is at the moment. -/
def Obligations.PwmWaveform : Prop :=
  ∀ s t : State, s.Inv → s.vst.en = false → exec (.vstEnable true) s = .next t →
    ∀ es : List Event, (∀ e ∈ es, e ≠ .reset ∧ e.instr? ≠ some (.vstEnable false)) →
      ∃ u : State, Sys2Proof.core.run es.length { t with schedule := es } = .next u ∧
        u.vst.en = true ∧ u.vst.cnt = es.count .tickV % 2 ^ s.params.vstW ∧
        (u.vst.pwmOut = true ↔ es.count .tickV % 2 ^ s.params.vstW < u.vst.duty)

/-- R17, R161: the pad drive value of every pin: the PWM output on the pin of `PROFILE.VST_PIN` while enabled, its latch
bit otherwise; the drive enable is the direction register. -/
def Obligations.PwmPadOverride : Prop :=
  ∀ (s : State) (d : Descriptor), s.params.profile.desc[s.params.profile.vstPin]? = some d →
    ∀ (loc : Loc) (b : Nat), b < 16 →
      (s.padout loc).getLsbD b =
        (if s.vst.en = true ∧ loc = d.loc ∧ b = d.bitpos.toNat then s.vst.pwmOut else (s.port loc).out.getLsbD b) ∧
      s.paden loc = (s.port loc).dir

/-- R162: the spindle operations and tick neither read nor write the other timers, and theirs neither read nor write
the spindle. -/
def Obligations.SpindleIndependent : Prop :=
  (∀ (s : State) (a : PulseTimer) (b : ResetTimer) (c : DebounceTimer) (i : Instr),
    ((∃ e, i = .vstEnable e) ∨ (∃ v, i = .vstSetDuty v) ∨ i = .vstIsEnabled ∨ i = .vstStatus) →
    (∃ t, exec i s = .next t ∧ t.pt = s.pt ∧ t.rt = s.rt ∧ t.dt = s.dt ∧
      exec i { s with pt := a, rt := b, dt := c } = .next { t with pt := a, rt := b, dt := c }) ∧
    tickV { s with pt := a, rt := b, dt := c } = { tickV s with pt := a, rt := b, dt := c } ∧
    (tickV s).pt = s.pt ∧ (tickV s).rt = s.rt ∧ (tickV s).dt = s.dt) ∧
  ∀ (s : State) (v : SpindleTimer) (i : Instr),
    ((∃ p, i = .ptConfigure p) ∨ (∃ d, i = .rtArm d) ∨
      i ∈ [.ptStart, .ptStop, .ptStatus, .rtDisarm, .rtStatus, .dtArm, .dtDisarm, .dtStatus]) →
    (∃ t, exec i s = .next t ∧ t.vst = s.vst ∧ exec i { s with vst := v } = .next { t with vst := v }) ∧
    tickT { s with vst := v } = { tickT s with vst := v } ∧ (tickT s).vst = s.vst ∧
    tickD { s with vst := v } = { tickD s with vst := v } ∧ (tickD s).vst = s.vst

/-! ## Debounce Timer -/

/-- R171: DT.ARM opens a window of `clamp(CFG.DEBOUNCE, 1, 2^DT_W - 1)` ticks, or does nothing while one is open. -/
def Obligations.DebounceArm : Prop :=
  (∀ data, decode (Xact.pack 2 1 0x030 data) = .ok .dtArm) ∧
  ∀ s : State, 1 ≤ s.params.dtW →
    (s.dt.state = .armed → exec .dtArm s = .next { s with answer := ⟨.ok, 0⟩ }) ∧
    (s.dt.state = .idle → ∀ d1, d1 = max 1 (min s.cfg.debounce (2 ^ s.params.dtW - 1)) →
      exec .dtArm s = .next { s with dt := { state := .armed, cnt := d1, load := d1 }, answer := ⟨.ok, 0⟩ })

/-- R142, R172: RT.DISARM and DT.DISARM in every state. -/
def Obligations.OneShotDisarm : Prop :=
  (∀ data, decode (Xact.pack 2 1 0x014 data) = .ok .rtDisarm ∧ decode (Xact.pack 2 1 0x034 data) = .ok .dtDisarm) ∧
  ∀ s : State,
    exec .rtDisarm s = .next { s with
      rt := { s.rt with state := .idle, cnt := 0, div := 0 }
      irq := { s.irq with reset := { s.irq.reset with pend := false } }
      answer := ⟨.ok, 0⟩ } ∧
    exec .dtDisarm s = .next { s with
      dt := { s.dt with state := .idle, cnt := 0 }
      irq := { s.irq with debounce := { s.irq.debounce with pend := false } }
      answer := ⟨.ok, 0⟩ }

/-- R174: the debounce tick, case by case, with the request it makes. -/
def Obligations.DebounceTick : Prop :=
  ∀ (s : State) (es : List Event), s.schedule = .tickD :: es →
    (s.dt.state = .idle → step s = .next { s with schedule := es }) ∧
    (s.dt.state = .armed → s.dt.cnt ≠ 0 → s.dt.cnt ≠ 1 →
      step s = .next { s with schedule := es, dt := { s.dt with cnt := s.dt.cnt - 1 } }) ∧
    (s.dt.state = .armed → s.dt.cnt = 1 →
      step s = .next (fire .debounce { s with schedule := es, dt := { s.dt with state := .idle, cnt := 0 } }))

/-- R175: for a window opened with effective delay `d1`, the fire comes in the `d1`-th debounce tick after that arm,
however many DT.ARM and whatever other events but a disarm and a reset follow inside the window. -/
def Obligations.OneDebounceWindow : Prop :=
  ∀ (s t : State) (es : List Event), 1 ≤ s.params.dtW → s.dt.state = .idle → exec .dtArm s = .next t →
    ∀ d1, d1 = max 1 (min s.cfg.debounce (2 ^ s.params.dtW - 1)) →
    (∀ e ∈ es, e ≠ .reset ∧ e.instr? ≠ some .dtDisarm) → es.count .tickD < d1 →
    ∃ u : State, Sys2Proof.core.run es.length { t with schedule := es } = .next u ∧
      u.dt = { state := .armed, cnt := d1 - es.count .tickD, load := d1 } ∧
      (u.debounceFires ↔ es.count .tickD + 1 = d1) ∧ (u.debounceFires → (tickD u).irq.debounce.pend = true)

/-! ## Status words -/

/-- R126, R143, R158, R159, R173, R182 with the layouts of R28 to R32: every field of the six status words, and that the
read changes nothing. -/
def Obligations.StatusWordLayouts : Prop :=
  (∀ data : Word, decode (Xact.pack 2 0 0x00C data) = .ok .ptStatus ∧
    decode (Xact.pack 2 0 0x018 data) = .ok .rtStatus ∧ decode (Xact.pack 2 0 0x028 data) = .ok .vstIsEnabled ∧
    decode (Xact.pack 2 0 0x02C data) = .ok .vstStatus ∧ decode (Xact.pack 2 0 0x038 data) = .ok .dtStatus ∧
    decode (Xact.pack 2 0 0x070 data) = .ok .irqPending) ∧
  ∀ s : State,
    (∃ w, exec .ptStatus s = .next { s with answer := ⟨.ok, w⟩ } ∧
      w.extractLsb' 0 2 = (match s.pt.state with | .idle => 0#2 | .armed => 1#2 | .running => 2#2) ∧
      (w.getLsbD 2 = true ↔ s.pt.state = .running) ∧ w.getLsbD 3 = s.pt.valid ∧
      w.extractLsb' 4 3 = BitVec.ofNat 3 s.pt.psel ∧ w.getLsbD 7 = false ∧
      w.extractLsb' 8 3 = BitVec.ofNat 3 s.pt.pselB ∧ w.extractLsb' 11 5 = 0 ∧
      w.extractLsb' 16 16 = BitVec.ofNat 16 s.pt.cmpB) ∧
    (∃ w, exec .rtStatus s = .next { s with answer := ⟨.ok, w⟩ } ∧
      (w.getLsbD 0 = true ↔ s.rt.state = .armed) ∧ w.extractLsb' 1 15 = 0 ∧
      w.extractLsb' 16 16 = BitVec.ofNat 16 s.rt.load) ∧
    (∃ w, exec .vstIsEnabled s = .next { s with answer := ⟨.ok, w⟩ } ∧
      w.getLsbD 0 = s.vst.en ∧ w.extractLsb' 1 31 = 0) ∧
    (∃ w, exec .vstStatus s = .next { s with answer := ⟨.ok, w⟩ } ∧
      w.extractLsb' 0 16 = BitVec.ofNat 16 s.vst.duty ∧ w.getLsbD 16 = s.vst.en ∧
      (w.getLsbD 17 = true ↔ s.vst.en = true ∧ s.vst.cnt < s.vst.duty) ∧ w.extractLsb' 18 14 = 0) ∧
    (∃ w, exec .dtStatus s = .next { s with answer := ⟨.ok, w⟩ } ∧
      (w.getLsbD 0 = true ↔ s.dt.state = .armed) ∧ w.extractLsb' 1 15 = 0 ∧
      w.extractLsb' 16 16 = BitVec.ofNat 16 s.dt.load) ∧
    ∃ w, exec .irqPending s = .next { s with answer := ⟨.ok, w⟩ } ∧
      ∀ src : Src, w.getLsbD src.bits.toNat = (s.irq.get src).pend ∧
        w.getLsbD (4 + src.bits.toNat) = false ∧ w.getLsbD (8 + src.bits.toNat) = (s.irq.get src).inserv ∧
        w.getLsbD (12 + src.bits.toNat) = false ∧ w.getLsbD (16 + src.bits.toNat) = (s.irq.get src).reg ∧
        w.getLsbD (20 + src.bits.toNat) = false ∧
        (w.getLsbD (24 + src.bits.toNat) = true ↔
          (s.irq.get src).pend = true ∧ (s.irq.get src).reg = true ∧ (s.irq.get src).inserv = false) ∧
        w.getLsbD (28 + src.bits.toNat) = false

/-! ## GPIO Engine -/

/-- R102: GP.INIT sets or clears the direction of the member pins, fires CHANGE if that changes a masked level, and
answers `BAD_DESC` for an index that is not bound. -/
def Obligations.GpioInit : Prop :=
  (∀ data : Word, decode (Xact.pack 2 1 0x040 data) = .ok (.gpInit (data.extractLsb' 24 8))) ∧
  ∀ (s : State) (desc : DescIdx),
    (s.params.Bound desc [.pin, .group] [.input, .output] = false →
      exec (.gpInit desc) s = .next (fail .badDesc (encode (.gpInit desc)) s)) ∧
    ∀ d, s.params.profile.desc[desc.toNat]? = some d → d.valid = true →
      ∀ s1, s1 = s.setPort d.loc { s.port d.loc with
          dir := if d.dir = .output then (s.port d.loc).dir ||| d.mask else (s.port d.loc).dir &&& ~~~d.mask } →
        exec (.gpInit desc) s = .next
          { (if (s.pinlvl d.loc ^^^ s1.pinlvl d.loc) &&& (s.port d.loc).pcmsk ≠ 0 then fire .change s1 else s1) with
            answer := ⟨.ok, 0⟩ }

/-- R103: GP.WRITE sets exactly the member bits of the latch to the operand's bits after polarity, and answers `BAD_DESC`
for an index that is not a bound output group. -/
def Obligations.GpioWrite : Prop :=
  (∀ data : Word, decode (Xact.pack 2 1 0x044 data) =
    .ok (.gpWrite (data.extractLsb' 24 8) (data.extractLsb' 0 16))) ∧
  ∀ (s : State) (desc : DescIdx) (val : BitVec 16),
    (s.params.Bound desc [.group] [.output] = false →
      exec (.gpWrite desc val) s = .next (fail .badDesc (encode (.gpWrite desc val)) s)) ∧
    ∀ d, s.params.profile.desc[desc.toNat]? = some d → d.valid = true → d.kind = .group → d.dir = .output →
      ∃ out : Port, ∃ s1, s1 = s.setPort d.loc { s.port d.loc with out := out } ∧
        (∀ b, b < 16 → out.getLsbD b =
          if d.mask.getLsbD b then
            ((val.getLsbD b && decide (b < s.params.portW)) ^^ (d.pol.getLsbD b ^^ (s.port d.loc).inv.getLsbD b))
          else (s.port d.loc).out.getLsbD b) ∧
        exec (.gpWrite desc val) s = .next
          { (if (s.pinlvl d.loc ^^^ s1.pinlvl d.loc) &&& (s.port d.loc).pcmsk ≠ 0 then fire .change s1 else s1) with
            answer := ⟨.ok, 0⟩ }

/-- R104: GP.WRITE_PIN sets the one bit of the latch to the operand's bit 0 after polarity, and answers `BAD_DESC` for an
index that is not a bound output pin. -/
def Obligations.GpioWritePin : Prop :=
  (∀ data : Word, decode (Xact.pack 2 1 0x048 data) =
    .ok (.gpWritePin (data.extractLsb' 24 8) (data.extractLsb' 0 16))) ∧
  ∀ (s : State) (desc : DescIdx) (val : BitVec 16), s.params.Ok →
    (s.params.Bound desc [.pin] [.output] = false →
      exec (.gpWritePin desc val) s = .next (fail .badDesc (encode (.gpWritePin desc val)) s)) ∧
    ∀ d, s.params.profile.desc[desc.toNat]? = some d → d.valid = true → d.kind = .pin → d.dir = .output →
      ∃ out : Port, ∃ s1, s1 = s.setPort d.loc { s.port d.loc with out := out } ∧
        (∀ b, b < 16 → out.getLsbD b =
          if b = d.bitpos.toNat then
            (val.getLsbD 0 ^^ (d.pol.getLsbD b ^^ (s.port d.loc).inv.getLsbD b))
          else (s.port d.loc).out.getLsbD b) ∧
        exec (.gpWritePin desc val) s = .next
          { (if (s.pinlvl d.loc ^^^ s1.pinlvl d.loc) &&& (s.port d.loc).pcmsk ≠ 0 then fire .change s1 else s1) with
            answer := ⟨.ok, 0⟩ }

/-- R105: GP.READ returns the latch of an output or the pin levels of an input, after polarity, a group in physical bit
positions and a pin in bit 0; `BUS_ERR` at or above `NDESC`, `BAD_DESC` for an entry that is not bound. -/
def Obligations.GpioRead : Prop :=
  (∀ (desc : DescIdx) (data : Word), decode (Xact.pack 2 0 (offsetAt 0x400 desc) data) = .ok (.gpRead desc)) ∧
  ∀ (s : State) (desc : DescIdx), s.params.Ok →
    (s.params.ndesc ≤ desc.toNat → exec (.gpRead desc) s = .next (fail .busErr (encode (.gpRead desc)) s)) ∧
    ∀ d, s.params.profile.desc[desc.toNat]? = some d →
      (d.valid = false → exec (.gpRead desc) s = .next (fail .badDesc (encode (.gpRead desc)) s)) ∧
      (d.valid = true → ∃ w : Word, exec (.gpRead desc) s = .next { s with answer := ⟨.ok, w⟩ } ∧
        ∀ level : Nat → Bool,
          (∀ b, level b = ((if d.dir = .output then (s.port d.loc).out.getLsbD b else (s.pinlvl d.loc).getLsbD b) ^^
            (d.pol.getLsbD b ^^ (s.port d.loc).inv.getLsbD b))) →
          (d.kind = .group → ∀ b, b < 32 → w.getLsbD b = (d.mask.getLsbD b && level b)) ∧
          (d.kind = .pin → w = if level d.bitpos.toNat then 1 else 0))

/-- R106: GP.SET_PULLUP sets or clears the pull-ups of an input's member pins, is a no-op with response `OK` on an
output, and answers `BAD_DESC` for an index that is not bound. -/
def Obligations.GpioSetPullup : Prop :=
  (∀ data : Word, decode (Xact.pack 2 1 0x04C data) =
    .ok (.gpSetPullup (data.extractLsb' 24 8) (data.extractLsb' 0 16))) ∧
  ∀ (s : State) (desc : DescIdx) (val : BitVec 16),
    (s.params.Bound desc [.pin, .group] [.input, .output] = false →
      exec (.gpSetPullup desc val) s = .next (fail .badDesc (encode (.gpSetPullup desc val)) s)) ∧
    ∀ d, s.params.profile.desc[desc.toNat]? = some d → d.valid = true →
      (d.dir = .output → exec (.gpSetPullup desc val) s = .next { s with answer := ⟨.ok, 0⟩ }) ∧
      (d.dir = .input → exec (.gpSetPullup desc val) s = .next
        { s.setPort d.loc { s.port d.loc with
            pue := if val.getLsbD 0 then (s.port d.loc).pue ||| d.mask else (s.port d.loc).pue &&& ~~~d.mask } with
          answer := ⟨.ok, 0⟩ })

/-- R107: GP.CHANGE_INT sets or clears the change mask of the member pins and withdraws the pending CHANGE request when
no mask bit is left; `BAD_DESC` for an index that is not a bound group. -/
def Obligations.GpioChangeInt : Prop :=
  (∀ data : Word, decode (Xact.pack 2 1 0x050 data) =
    .ok (.gpChangeInt (data.extractLsb' 24 8) (data.extractLsb' 0 16))) ∧
  ∀ (s : State) (desc : DescIdx) (val : BitVec 16),
    (s.params.Bound desc [.group] [.input, .output] = false →
      exec (.gpChangeInt desc val) s = .next (fail .badDesc (encode (.gpChangeInt desc val)) s)) ∧
    ∀ d, s.params.profile.desc[desc.toNat]? = some d → d.valid = true → d.kind = .group →
      ∀ s1, s1 = s.setPort d.loc { s.port d.loc with
          pcmsk := if val.getLsbD 0 then (s.port d.loc).pcmsk ||| d.mask else (s.port d.loc).pcmsk &&& ~~~d.mask } →
        ((∀ l : Loc, l.toNat < s.params.nloc → (s1.port l).pcmsk = 0) →
          exec (.gpChangeInt desc val) s = .next { s1 with
            irq := { s.irq with change := { s.irq.change with pend := false } }, answer := ⟨.ok, 0⟩ }) ∧
        ((∃ l : Loc, l.toNat < s.params.nloc ∧ (s1.port l).pcmsk ≠ 0) →
          exec (.gpChangeInt desc val) s = .next { s1 with answer := ⟨.ok, 0⟩ })

/-- R109, R108: a pad event stores the levels and fires CHANGE if a masked pin level changed. -/
def Obligations.PadEventDetectsChange : Prop :=
  ∀ (s : State) (loc : Loc) (v : BitVec 16) (es : List Event), s.schedule = .pad loc v :: es →
    loc.toNat < s.params.nloc →
    ∃ t, step s = .next t ∧ t.schedule = es ∧ t.ports = s.ports ∧
      (∀ b, b < 16 → (t.pad loc).getLsbD b = (v.getLsbD b && decide (b < s.params.portW))) ∧
      (∀ l, l ≠ loc → t.pad l = s.pad l) ∧
      ∀ s1 : State, s1 = { s with schedule := es, pads := t.pads } →
        ((∃ b : Nat, (s.port loc).pcmsk.getLsbD b = true ∧ (s.pinlvl loc).getLsbD b ≠ (s1.pinlvl loc).getLsbD b) →
          t = fire .change s1) ∧
        ((∀ b : Nat, (s.port loc).pcmsk.getLsbD b = true → (s.pinlvl loc).getLsbD b = (s1.pinlvl loc).getLsbD b) →
          t = s1)

/-- R110: no GPIO operation changes a bit outside the descriptor's mask, or any other location. -/
def Obligations.GpioWritesOnlyUnderMask : Prop :=
  ∀ (s t : State) (desc : DescIdx) (val : BitVec 16) (d : Descriptor) (i : Instr), s.params.Ok →
    s.params.profile.desc[desc.toNat]? = some d → d.valid = true →
    i ∈ [.gpInit desc, .gpWrite desc val, .gpWritePin desc val, .gpRead desc, .gpSetPullup desc val,
      .gpChangeInt desc val] → exec i s = .next t →
    (t.port d.loc).dir &&& ~~~d.mask = (s.port d.loc).dir &&& ~~~d.mask ∧
    (t.port d.loc).out &&& ~~~d.mask = (s.port d.loc).out &&& ~~~d.mask ∧
    (t.port d.loc).pue &&& ~~~d.mask = (s.port d.loc).pue &&& ~~~d.mask ∧
    (t.port d.loc).pcmsk &&& ~~~d.mask = (s.port d.loc).pcmsk &&& ~~~d.mask ∧
    (t.port d.loc).inv = (s.port d.loc).inv ∧ ∀ l, l ≠ d.loc → t.port l = s.port l

/-- R111: a read of an output descriptor returns what was last written through it, in every later state that still has
that latch, that invert mask and that table. -/
def Obligations.GpioWriteThenRead : Prop :=
  ∀ (s t t' : State) (desc : DescIdx) (val : BitVec 16) (d : Descriptor), s.params.Ok →
    s.params.profile.desc[desc.toNat]? = some d → d.valid = true → d.dir = .output →
    exec (if d.kind = .group then .gpWrite desc val else .gpWritePin desc val) s = .next t →
    t'.params = t.params → (t'.port d.loc).out = (t.port d.loc).out → (t'.port d.loc).inv = (s.port d.loc).inv →
    ∃ w : Word, exec (.gpRead desc) t' = .next { t' with answer := ⟨.ok, w⟩ } ∧
      (d.kind = .group → w = (val &&& d.mask).setWidth 32) ∧ (d.kind = .pin → w = if val.getLsbD 0 then 1 else 0)

/-! ## Virtual Port Model -/

/-- R90, R91 with R35, R36: the two words of an entry field by field, all zero for an entry that is not bound, and
`BUS_ERR` at or above `NDESC`. -/
def Obligations.DescriptorWindows : Prop :=
  (∀ (desc : DescIdx) (data : Word), decode (Xact.pack 2 0 (offsetAt 0x800 desc) data) = .ok (.vpResolve desc) ∧
    decode (Xact.pack 2 0 (offsetAt 0xC00 desc) data) = .ok (.vpPol desc)) ∧
  ∀ (s : State) (desc : DescIdx),
    (s.params.ndesc ≤ desc.toNat →
      exec (.vpResolve desc) s = .next (fail .busErr (encode (.vpResolve desc)) s) ∧
      exec (.vpPol desc) s = .next (fail .busErr (encode (.vpPol desc)) s)) ∧
    ∀ d, s.params.profile.desc[desc.toNat]? = some d →
      ∃ w p : Word, exec (.vpResolve desc) s = .next { s with answer := ⟨.ok, w⟩ } ∧
        exec (.vpPol desc) s = .next { s with answer := ⟨.ok, p⟩ } ∧
        (d.valid = false → w = 0 ∧ p = 0) ∧
        (d.valid = true → w.getLsbD 31 = true ∧ (w.getLsbD 30 = true ↔ d.kind = .group) ∧
          (w.getLsbD 29 = true ↔ d.dir = .output) ∧ w.extractLsb' 27 2 = 0 ∧ w.extractLsb' 24 3 = d.loc ∧
          w.extractLsb' 20 4 = d.bitpos ∧ w.extractLsb' 16 4 = 0 ∧ w.extractLsb' 0 16 = d.mask ∧
          p = d.pol.setWidth 32)

/-! ## System operations -/

/-- R180, R181: a callback is registered once per source; its handle reads back. -/
def Obligations.CallbackRegistration : Prop :=
  (∀ (src : Src) (data : Word), decode (Xact.pack 2 1 (offsetAt 0x060 src.bits) data) = .ok (.cbRegister src data) ∧
    decode (Xact.pack 2 0 (offsetAt 0x060 src.bits) data) = .ok (.cbRead src)) ∧
  ∀ (s : State) (src : Src) (handle : Word),
    ((s.irq.get src).reg = true →
      exec (.cbRegister src handle) s = .next (fail .stateErr (encode (.cbRegister src handle)) s)) ∧
    ((s.irq.get src).reg = false → ∃ q : Irq,
      exec (.cbRegister src handle) s = .next { s with irq := q, answer := ⟨.ok, 0⟩ } ∧
      q.get src = { s.irq.get src with cbvec := handle, reg := true } ∧ ∀ k, k ≠ src → q.get k = s.irq.get k) ∧
    exec (.cbRead src) s = .next { s with answer := ⟨.ok, (s.irq.get src).cbvec⟩ }

/-- R183, R184: IRQ.TAKE moves a requested source from pending into service, IRQ.DONE ends the service; each answers
`STATE_ERR` out of turn. -/
def Obligations.InterruptHandshake : Prop :=
  (∀ data : Word, decode (Xact.pack 2 1 0x074 data) = .ok (.irqTake (Src.ofBits (data.extractLsb' 0 2))) ∧
    decode (Xact.pack 2 1 0x078 data) = .ok (.irqDone (Src.ofBits (data.extractLsb' 0 2)))) ∧
  ∀ (s : State) (src : Src),
    ((s.irq.get src).pend = true → (s.irq.get src).reg = true → (s.irq.get src).inserv = false → ∃ q : Irq,
      exec (.irqTake src) s = .next { s with irq := q, answer := ⟨.ok, 0⟩ } ∧
      q.get src = { s.irq.get src with pend := false, inserv := true } ∧ ∀ k, k ≠ src → q.get k = s.irq.get k) ∧
    (((s.irq.get src).pend = false ∨ (s.irq.get src).reg = false ∨ (s.irq.get src).inserv = true) →
      exec (.irqTake src) s = .next (fail .stateErr (encode (.irqTake src)) s)) ∧
    ((s.irq.get src).inserv = true → ∃ q : Irq,
      exec (.irqDone src) s = .next { s with irq := q, answer := ⟨.ok, 0⟩ } ∧
      q.get src = { s.irq.get src with inserv := false } ∧ ∀ k, k ≠ src → q.get k = s.irq.get k) ∧
    ((s.irq.get src).inserv = false →
      exec (.irqDone src) s = .next (fail .stateErr (encode (.irqDone src)) s))

/-- R185, R186: a configuration register stores the operand saturated to its width, and reads back. -/
def Obligations.ConfigurationRegisters : Prop :=
  (∀ (k : CfgReg) (data : Word), decode (Xact.pack 2 1 (offsetAt 0x080 k.bits) data) = .ok (.cfgSet k data) ∧
    decode (Xact.pack 2 0 (offsetAt 0x080 k.bits) data) = .ok (.cfgGet k)) ∧
  ∀ (s : State) (v : Word),
    exec (.cfgSet .pwmOff v) s = .next { s with
      cfg := { s.cfg with pwmOff := min v.toNat (2 ^ s.params.vstW - 1) }, answer := ⟨.ok, 0⟩ } ∧
    exec (.cfgSet .pwmMax v) s = .next { s with
      cfg := { s.cfg with pwmMax := min v.toNat (2 ^ s.params.vstW - 1) }, answer := ⟨.ok, 0⟩ } ∧
    exec (.cfgSet .pwmMin v) s = .next { s with
      cfg := { s.cfg with pwmMin := min v.toNat (2 ^ s.params.vstW - 1) }, answer := ⟨.ok, 0⟩ } ∧
    exec (.cfgSet .debounce v) s = .next { s with
      cfg := { s.cfg with debounce := min v.toNat (2 ^ s.params.dtW - 1) }, answer := ⟨.ok, 0⟩ } ∧
    exec (.cfgGet .pwmOff) s = .next { s with answer := ⟨.ok, BitVec.ofNat 32 s.cfg.pwmOff⟩ } ∧
    exec (.cfgGet .pwmMax) s = .next { s with answer := ⟨.ok, BitVec.ofNat 32 s.cfg.pwmMax⟩ } ∧
    exec (.cfgGet .pwmMin) s = .next { s with answer := ⟨.ok, BitVec.ofNat 32 s.cfg.pwmMin⟩ } ∧
    exec (.cfgGet .debounce) s = .next { s with answer := ⟨.ok, BitVec.ofNat 32 s.cfg.debounce⟩ }

/-- R187, R188: INV.SET keeps the low `PORT_W` bits of its operand and changes nothing else; INV.GET reads them back;
`BUS_ERR` at or above `NLOC`. -/
def Obligations.InvertMasks : Prop :=
  (∀ (loc : Loc) (data : Word), decode (Xact.pack 2 1 (offsetAt 0x1A0 loc) data) = .ok (.invSet loc data) ∧
    decode (Xact.pack 2 0 (offsetAt 0x1A0 loc) data) = .ok (.invGet loc)) ∧
  ∀ (s : State) (loc : Loc) (m : Word),
    (s.params.nloc ≤ loc.toNat →
      exec (.invSet loc m) s = .next (fail .busErr (encode (.invSet loc m)) s) ∧
      exec (.invGet loc) s = .next (fail .busErr (encode (.invGet loc)) s)) ∧
    (loc.toNat < s.params.nloc →
      (∃ v : Port, (∀ b, b < 16 → v.getLsbD b = (m.getLsbD b && decide (b < s.params.portW))) ∧
        exec (.invSet loc m) s = .next
          { s.setPort loc { s.port loc with inv := v } with answer := ⟨.ok, 0⟩ }) ∧
      exec (.invGet loc) s = .next { s with answer := ⟨.ok, (s.port loc).inv.setWidth 32⟩ })

/-- R189, R190: the two reads of the error record. -/
def Obligations.ErrorRecordReads : Prop :=
  (∀ data : Word, decode (Xact.pack 2 0 0x0C0 data) = .ok .errStatus ∧
    decode (Xact.pack 2 0 0x0C4 data) = .ok .errInfo) ∧
  ∀ s : State, exec .errStatus s = .next { s with answer := ⟨.ok, s.err.status.setWidth 32⟩ } ∧
    exec .errInfo s = .next { s with answer := ⟨.ok, s.err.info.setWidth 32⟩ }

/-- R191 to R195: the five diagnostic views of a location, the third showing on each pin the latch of an output and the
pad of an input (R17); `BUS_ERR` at or above `NLOC`. -/
def Obligations.RawPortViews : Prop :=
  (∀ (loc : Loc) (data : Word), decode (Xact.pack 2 0 (offsetAt 0x100 loc) data) = .ok (.rawDir loc) ∧
    decode (Xact.pack 2 0 (offsetAt 0x120 loc) data) = .ok (.rawOut loc) ∧
    decode (Xact.pack 2 0 (offsetAt 0x140 loc) data) = .ok (.rawIn loc) ∧
    decode (Xact.pack 2 0 (offsetAt 0x160 loc) data) = .ok (.rawPue loc) ∧
    decode (Xact.pack 2 0 (offsetAt 0x180 loc) data) = .ok (.rawPcmsk loc)) ∧
  ∀ (s : State) (loc : Loc),
    (s.params.nloc ≤ loc.toNat → ∀ i ∈ [Instr.rawDir loc, .rawOut loc, .rawIn loc, .rawPue loc, .rawPcmsk loc],
      exec i s = .next (fail .busErr (encode i) s)) ∧
    (loc.toNat < s.params.nloc →
      exec (.rawDir loc) s = .next { s with answer := ⟨.ok, (s.port loc).dir.setWidth 32⟩ } ∧
      exec (.rawOut loc) s = .next { s with answer := ⟨.ok, (s.port loc).out.setWidth 32⟩ } ∧
      exec (.rawPue loc) s = .next { s with answer := ⟨.ok, (s.port loc).pue.setWidth 32⟩ } ∧
      exec (.rawPcmsk loc) s = .next { s with answer := ⟨.ok, (s.port loc).pcmsk.setWidth 32⟩ } ∧
      ∃ w : Word, exec (.rawIn loc) s = .next { s with answer := ⟨.ok, w⟩ } ∧
        ∀ b, b < 32 → w.getLsbD b =
          if (s.port loc).dir.getLsbD b then (s.port loc).out.getLsbD b else (s.pad loc).getLsbD b)

/-! ## Rules about all operations -/

/-- R55: a read with an address in range and, for GP.READ, a bound descriptor answers `OK` and changes no state. -/
def Obligations.ReadsChangeNothing : Prop :=
  ∀ (s : State) (i : Instr), i.isWrite = false → i.WellFormed s.params = true → i.Resolved s.params = true →
    ∃ v : Word, exec i s = .next { s with answer := ⟨.ok, v⟩ }

/-- R55: a read changes nothing but what it returns or, failing, the error record, so that repeating it changes nothing;
and each operation the rule lists leaves the state unchanged when repeated at once with the same operand. -/
def Obligations.IdempotentOperations : Prop :=
  ∀ (s t : State) (i : Instr),
    (i.isWrite = false ∨ i ∈ [.ptStart, .ptStop, .rtDisarm, .dtDisarm] ∨ (i = .dtArm ∧ s.dt.state = .armed) ∨
      (∃ p, i = .ptConfigure p ∧ s.pt.state = .running) ∨ (∃ b, i = .vstEnable b) ∨ (∃ v, i = .vstSetDuty v) ∨
      (∃ desc, i = .gpInit desc) ∨ (∃ desc v, i ∈ [.gpWrite desc v, .gpWritePin desc v, .gpSetPullup desc v,
        .gpChangeInt desc v]) ∨ (∃ k v, i = .cfgSet k v) ∨ (∃ loc m, i = .invSet loc m)) →
    exec i s = .next t →
    exec i t = .next t ∧ (i.isWrite = false → t = { s with err := t.err, answer := t.answer } ∧
      (t.answer.resp = .ok → t.err = s.err))

/-- R218: apart from the three operations on the interrupt handshake itself, an operation has the same effect and the
same response whatever the in-service bits are, so in main-line and in interrupt context. -/
def Obligations.ContextDoesNotMatter : Prop :=
  ∀ (s : State) (a b c d : Bool) (i : Instr), i ≠ .irqPending → (∀ src, i ≠ .irqTake src ∧ i ≠ .irqDone src) →
    ∀ f : State → State,
      (∀ u : State, f u = { u with irq :=
        { pulse := { u.irq.pulse with inserv := a }, reset := { u.irq.reset with inserv := b },
          debounce := { u.irq.debounce with inserv := c }, change := { u.irq.change with inserv := d } } }) →
      ∃ t, exec i s = .next t ∧ exec i (f s) = .next (f t)

/-- R24: no read shows the hidden counters: two states that differ only in them, and show the same PWM output, answer
every read alike. -/
def Obligations.HiddenCountersUnreadable : Prop :=
  ∀ (s s' : State) (i : Instr) (cnt div cmp rcnt rdiv vcnt dcnt : Nat),
    s' = { s with pt := { s.pt with cnt := cnt, div := div, cmp := cmp }, rt := { s.rt with cnt := rcnt, div := rdiv },
                  vst := { s.vst with cnt := vcnt }, dt := { s.dt with cnt := dcnt } } →
    s'.vst.pwmOut = s.vst.pwmOut → i.isWrite = false →
    ∃ t t', exec i s = .next t ∧ exec i s' = .next t' ∧ t.answer = t'.answer
end

