-- ==== Sys2Proof/Laws/Decode.lean ====
section
/-! SUPPORT. Lemmas of the transaction word and of the row search: the fields of a packed word, and that a row is
chosen by the 15 header bits alone (30_encoding.md R70, R73). -/

namespace Sys2Proof

variable (sz : BitVec 2) (wr : BitVec 1) (off : BitVec 12) (data : Word) (x : Xact)

/-- The bits of a packed word, field by field. -/
theorem getLsbD_pack (i : Nat) : (Xact.pack sz wr off data).getLsbD i =
    if i < 32 then data.getLsbD i else if i < 44 then off.getLsbD (i - 32) else if i < 45 then wr.getLsbD (i - 44)
    else sz.getLsbD (i - 45) := by
  show BitVec.getLsbD (w := 2 + 1 + 12 + 32) (sz ++ wr ++ off ++ data) i = _
  rw [BitVec.getLsbD_append, BitVec.getLsbD_append, BitVec.getLsbD_append]
  by_cases a : i < 32
  · simp [a]
  · by_cases b : i < 44
    · simp [a, b, show i - 32 < 12 by omega]
    · by_cases c : i < 45
      · obtain rfl : i = 44 := by omega
        rfl
      · simp [a, b, c, show ¬ i - 32 < 12 by omega, show ¬ i - 32 - 12 < 1 by omega,
          show i - 32 - 12 - 1 = i - 45 by omega]

@[simp] theorem sz_pack : (Xact.pack sz wr off data).sz = sz := by
  apply BitVec.eq_of_getLsbD_eq; intro i hi
  simp [Xact.sz, getLsbD_pack, hi, show ¬ 45 + i < 32 by omega, show ¬ 45 + i < 44 by omega]

@[simp] theorem wr_pack : (Xact.pack sz wr off data).wr = wr := by
  apply BitVec.eq_of_getLsbD_eq; intro i hi
  obtain rfl : i = 0 := by omega
  simp only [Xact.wr, BitVec.getLsbD_extractLsb', getLsbD_pack]
  simp

@[simp] theorem off_pack : (Xact.pack sz wr off data).off = off := by
  apply BitVec.eq_of_getLsbD_eq; intro i hi
  simp [Xact.off, getLsbD_pack, hi, show 32 + i < 44 by omega]

@[simp] theorem data_pack : (Xact.pack sz wr off data).data = data := by
  apply BitVec.eq_of_getLsbD_eq; intro i hi
  simp [Xact.data, getLsbD_pack, hi]

/-- The header of a packed word is its three upper fields. -/
theorem header_pack : (Xact.pack sz wr off data).header = Xact.header (Xact.pack sz wr off 0) := by
  apply BitVec.eq_of_getLsbD_eq; intro i hi
  simp [Xact.header, getLsbD_pack, hi]

/-- The fields above `DATA` are read off the header. -/
theorem sz_eq_header : x.sz = x.header.extractLsb' 13 2 := by
  apply BitVec.eq_of_getLsbD_eq; intro i hi
  simp [Xact.sz, Xact.header, hi, show 13 + i < 15 by omega, show 32 + (13 + i) = 45 + i by omega]

theorem off_eq_header : x.off = x.header.extractLsb' 0 12 := by
  apply BitVec.eq_of_getLsbD_eq; intro i hi
  simp [Xact.off, Xact.header, hi, show i < 15 by omega]

theorem wr_eq_header : x.wr = x.header.extractLsb' 12 1 := by
  apply BitVec.eq_of_getLsbD_eq; intro i hi
  simp [Xact.wr, Xact.header, hi, show 12 + i < 15 by omega, show 32 + (12 + i) = 44 + i by omega]

/-- A mask and a pattern with nothing in `DATA` compare the header only. -/
theorem and_eq_iff_header (m p : BitVec 47) (hm : m.extractLsb' 0 32 = 0) (hp : p.extractLsb' 0 32 = 0) :
    (x &&& m == p) = (x.header &&& Xact.header m == Xact.header p) := by
  have low : ∀ v : BitVec 47, v.extractLsb' 0 32 = 0 → ∀ i, i < 32 → v.getLsbD i = false := by
    intro v hv i hi
    have := congrArg (fun w => w.getLsbD i) hv
    simpa [hi] using this
  rw [Bool.eq_iff_iff, beq_iff_eq, beq_iff_eq]
  constructor
  · intro h
    apply BitVec.eq_of_getLsbD_eq; intro i hi
    have := congrArg (fun w => w.getLsbD (32 + i)) h
    simpa [Xact.header, hi] using this
  · intro h
    apply BitVec.eq_of_getLsbD_eq; intro i hi
    by_cases hlow : i < 32
    · simp [low m hm i hlow, low p hp i hlow]
    · have := congrArg (fun w => w.getLsbD (i - 32)) h
      simpa [Xact.header, show i - 32 < 15 by omega, show 32 + (i - 32) = i by omega] using this

/-- The place in the map of the row that a header selects. -/
def selectHeader (h : BitVec 15) : Option Nat :=
  opMap.findIdx? (fun r => h &&& Xact.header r.mask == Xact.header r.pattern)

theorem find?_congr_mem {α : Type} {p q : α → Bool} :
    ∀ {l : List α}, (∀ a ∈ l, p a = q a) → l.find? p = l.find? q
  | [], _ => rfl
  | a :: l, h => by
    have ha := h a (by simp)
    have ih := find?_congr_mem (l := l) (fun b hb => h b (by simp [hb]))
    simp [List.find?_cons, ha, ih]

/-- No row of the map looks at `DATA`. -/
theorem opMap_low : ∀ r ∈ opMap, r.mask.extractLsb' 0 32 = 0 ∧ r.pattern.extractLsb' 0 32 = 0 := by
  have h : (opMap.map fun r => (r.mask, r.pattern)).all
      (fun mp => mp.1.extractLsb' 0 32 = 0 && mp.2.extractLsb' 0 32 = 0) = true := by decide
  intro r hr
  have := List.all_eq_true.mp h (r.mask, r.pattern) (List.mem_map.mpr ⟨r, hr, rfl⟩)
  simpa using this

/-- The row a word selects depends on its header alone. -/
theorem selectRow_of_header {k : Nat} (hk : selectHeader x.header = some k) : selectRow x = opMap[k]? := by
  have h1 : selectRow x = opMap.find? (fun r => x.header &&& Xact.header r.mask == Xact.header r.pattern) :=
    find?_congr_mem fun r hr => and_eq_iff_header x r.mask r.pattern (opMap_low r hr).1 (opMap_low r hr).2
  rw [h1, List.find?_eq_bind_findIdx?_getElem?]
  unfold selectHeader at hk
  rw [hk]
  rfl

/-- Decoding by the header: the one place a proof about `decode` starts from. `k` is the row's place in the map. -/
theorem decode_of_header {h : BitVec 15} {k : Nat} {r : OpRow} (hx : x.header = h)
    (hs : h.extractLsb' 13 2 = 2) (ho : (h.extractLsb' 0 12).extractLsb' 0 2 = 0)
    (hk : selectHeader h = some k) (hr : opMap[k]? = some r) : decode x = .ok (r.build x) := by
  subst hx
  simp only [decode, sz_eq_header, off_eq_header, selectRow_of_header x hk, hs, ho, hr]
  simp

/-- Fields of `DATA` are read off the data word. -/
theorem fieldDesc_eq : x.fieldDesc = x.data.extractLsb' 24 8 := by
  apply BitVec.eq_of_getLsbD_eq; intro i hi
  simp [Xact.fieldDesc, Xact.data, hi]

theorem fieldVal_eq : x.fieldVal = x.data.extractLsb' 0 16 := by
  apply BitVec.eq_of_getLsbD_eq; intro i hi
  simp [Xact.fieldVal, Xact.data, hi]

theorem fieldB_eq : x.fieldB = x.data.getLsbD 0 := by
  simp [Xact.fieldB, Xact.data]

theorem fieldSrc_eq : x.fieldSrc = Src.ofBits (x.data.extractLsb' 0 2) := by
  unfold Xact.fieldSrc
  congr 1
  apply BitVec.eq_of_getLsbD_eq; intro i hi
  simp [Xact.data, hi]

theorem idxLoc_eq : x.idxLoc = x.header.extractLsb' 2 3 := by
  apply BitVec.eq_of_getLsbD_eq; intro i hi
  simp [Xact.idxLoc, Xact.header, hi, show 2 + i < 15 by omega, show 32 + (2 + i) = 34 + i by omega]

theorem winDesc_eq : x.winDesc = x.header.extractLsb' 2 8 := by
  apply BitVec.eq_of_getLsbD_eq; intro i hi
  simp [Xact.winDesc, Xact.header, hi, show 2 + i < 15 by omega, show 32 + (2 + i) = 34 + i by omega]

theorem idx2_eq : x.extractLsb' 34 2 = x.header.extractLsb' 2 2 := by
  apply BitVec.eq_of_getLsbD_eq; intro i hi
  simp [Xact.header, hi, show 2 + i < 15 by omega, show 32 + (2 + i) = 34 + i by omega]

/-- The data word of format `WG` and its fields. -/
theorem getLsbD_dataWG (desc : DescIdx) (val : BitVec 16) (i : Nat) : (dataWG desc val).getLsbD i =
    if i < 16 then val.getLsbD i else if i < 24 then false else desc.getLsbD (i - 24) := by
  show BitVec.getLsbD (w := 8 + 8 + 16) (desc ++ (0#8 : BitVec 8) ++ val) i = _
  rw [BitVec.getLsbD_append, BitVec.getLsbD_append]
  by_cases a : i < 16
  · simp [a]
  · by_cases b : i < 24
    · simp [a, b, show i - 16 < 8 by omega]
    · simp [a, b, show ¬ i - 16 < 8 by omega, show i - 16 - 8 = i - 24 by omega]

@[simp] theorem dataWG_desc (desc : DescIdx) (val : BitVec 16) : (dataWG desc val).extractLsb' 24 8 = desc := by
  apply BitVec.eq_of_getLsbD_eq; intro i hi
  simp [getLsbD_dataWG, hi, show ¬ 24 + i < 16 by omega]

@[simp] theorem dataWG_val (desc : DescIdx) (val : BitVec 16) : (dataWG desc val).extractLsb' 0 16 = val := by
  apply BitVec.eq_of_getLsbD_eq; intro i hi
  simp [getLsbD_dataWG, hi]

@[simp] theorem ofBits_bits (src : Src) : Src.ofBits src.bits = src := by cases src <;> rfl
@[simp] theorem cfgOfBits_bits (k : CfgReg) : CfgReg.ofBits k.bits = k := by cases k <;> rfl

end Sys2Proof
end

