-- ==== Sys2Proof/Laws/State.lean ====
section
/-! SUPPORT. The small lemmas of the state record: one per field per update, and the registers of a location after an
update. With them no proof unfolds a record update. -/

namespace Sys2Proof.Machine

variable (s : State) (loc loc' : Loc)

@[simp] theorem setPt_params (t : PulseTimer) : (s.setPt t).params = s.params := rfl
@[simp] theorem setPt_pt (t : PulseTimer) : (s.setPt t).pt = t := rfl
@[simp] theorem setPt_rt (t : PulseTimer) : (s.setPt t).rt = s.rt := rfl
@[simp] theorem setPt_vst (t : PulseTimer) : (s.setPt t).vst = s.vst := rfl
@[simp] theorem setPt_dt (t : PulseTimer) : (s.setPt t).dt = s.dt := rfl
@[simp] theorem setPt_ports (t : PulseTimer) : (s.setPt t).ports = s.ports := rfl
@[simp] theorem setPt_pads (t : PulseTimer) : (s.setPt t).pads = s.pads := rfl
@[simp] theorem setPt_cfg (t : PulseTimer) : (s.setPt t).cfg = s.cfg := rfl
@[simp] theorem setPt_irq (t : PulseTimer) : (s.setPt t).irq = s.irq := rfl
@[simp] theorem setPt_err (t : PulseTimer) : (s.setPt t).err = s.err := rfl
@[simp] theorem setPt_answer (t : PulseTimer) : (s.setPt t).answer = s.answer := rfl
@[simp] theorem setPt_schedule (t : PulseTimer) : (s.setPt t).schedule = s.schedule := rfl
@[simp] theorem setPt_port (t : PulseTimer) : (s.setPt t).port loc = s.port loc := rfl
@[simp] theorem setPt_pad (t : PulseTimer) : (s.setPt t).pad loc = s.pad loc := rfl
@[simp] theorem setPt_pinlvl (t : PulseTimer) : (s.setPt t).pinlvl loc = s.pinlvl loc := rfl

@[simp] theorem setRt_params (t : ResetTimer) : (s.setRt t).params = s.params := rfl
@[simp] theorem setRt_pt (t : ResetTimer) : (s.setRt t).pt = s.pt := rfl
@[simp] theorem setRt_rt (t : ResetTimer) : (s.setRt t).rt = t := rfl
@[simp] theorem setRt_vst (t : ResetTimer) : (s.setRt t).vst = s.vst := rfl
@[simp] theorem setRt_dt (t : ResetTimer) : (s.setRt t).dt = s.dt := rfl
@[simp] theorem setRt_ports (t : ResetTimer) : (s.setRt t).ports = s.ports := rfl
@[simp] theorem setRt_pads (t : ResetTimer) : (s.setRt t).pads = s.pads := rfl
@[simp] theorem setRt_cfg (t : ResetTimer) : (s.setRt t).cfg = s.cfg := rfl
@[simp] theorem setRt_irq (t : ResetTimer) : (s.setRt t).irq = s.irq := rfl
@[simp] theorem setRt_err (t : ResetTimer) : (s.setRt t).err = s.err := rfl
@[simp] theorem setRt_answer (t : ResetTimer) : (s.setRt t).answer = s.answer := rfl
@[simp] theorem setRt_schedule (t : ResetTimer) : (s.setRt t).schedule = s.schedule := rfl
@[simp] theorem setRt_port (t : ResetTimer) : (s.setRt t).port loc = s.port loc := rfl
@[simp] theorem setRt_pad (t : ResetTimer) : (s.setRt t).pad loc = s.pad loc := rfl
@[simp] theorem setRt_pinlvl (t : ResetTimer) : (s.setRt t).pinlvl loc = s.pinlvl loc := rfl

@[simp] theorem setVst_params (t : SpindleTimer) : (s.setVst t).params = s.params := rfl
@[simp] theorem setVst_pt (t : SpindleTimer) : (s.setVst t).pt = s.pt := rfl
@[simp] theorem setVst_rt (t : SpindleTimer) : (s.setVst t).rt = s.rt := rfl
@[simp] theorem setVst_vst (t : SpindleTimer) : (s.setVst t).vst = t := rfl
@[simp] theorem setVst_dt (t : SpindleTimer) : (s.setVst t).dt = s.dt := rfl
@[simp] theorem setVst_ports (t : SpindleTimer) : (s.setVst t).ports = s.ports := rfl
@[simp] theorem setVst_pads (t : SpindleTimer) : (s.setVst t).pads = s.pads := rfl
@[simp] theorem setVst_cfg (t : SpindleTimer) : (s.setVst t).cfg = s.cfg := rfl
@[simp] theorem setVst_irq (t : SpindleTimer) : (s.setVst t).irq = s.irq := rfl
@[simp] theorem setVst_err (t : SpindleTimer) : (s.setVst t).err = s.err := rfl
@[simp] theorem setVst_answer (t : SpindleTimer) : (s.setVst t).answer = s.answer := rfl
@[simp] theorem setVst_schedule (t : SpindleTimer) : (s.setVst t).schedule = s.schedule := rfl
@[simp] theorem setVst_port (t : SpindleTimer) : (s.setVst t).port loc = s.port loc := rfl
@[simp] theorem setVst_pad (t : SpindleTimer) : (s.setVst t).pad loc = s.pad loc := rfl
@[simp] theorem setVst_pinlvl (t : SpindleTimer) : (s.setVst t).pinlvl loc = s.pinlvl loc := rfl

@[simp] theorem setDt_params (t : DebounceTimer) : (s.setDt t).params = s.params := rfl
@[simp] theorem setDt_pt (t : DebounceTimer) : (s.setDt t).pt = s.pt := rfl
@[simp] theorem setDt_rt (t : DebounceTimer) : (s.setDt t).rt = s.rt := rfl
@[simp] theorem setDt_vst (t : DebounceTimer) : (s.setDt t).vst = s.vst := rfl
@[simp] theorem setDt_dt (t : DebounceTimer) : (s.setDt t).dt = t := rfl
@[simp] theorem setDt_ports (t : DebounceTimer) : (s.setDt t).ports = s.ports := rfl
@[simp] theorem setDt_pads (t : DebounceTimer) : (s.setDt t).pads = s.pads := rfl
@[simp] theorem setDt_cfg (t : DebounceTimer) : (s.setDt t).cfg = s.cfg := rfl
@[simp] theorem setDt_irq (t : DebounceTimer) : (s.setDt t).irq = s.irq := rfl
@[simp] theorem setDt_err (t : DebounceTimer) : (s.setDt t).err = s.err := rfl
@[simp] theorem setDt_answer (t : DebounceTimer) : (s.setDt t).answer = s.answer := rfl
@[simp] theorem setDt_schedule (t : DebounceTimer) : (s.setDt t).schedule = s.schedule := rfl
@[simp] theorem setDt_port (t : DebounceTimer) : (s.setDt t).port loc = s.port loc := rfl
@[simp] theorem setDt_pad (t : DebounceTimer) : (s.setDt t).pad loc = s.pad loc := rfl
@[simp] theorem setDt_pinlvl (t : DebounceTimer) : (s.setDt t).pinlvl loc = s.pinlvl loc := rfl

@[simp] theorem setCfg_params (c : CfgRegs) : (s.setCfg c).params = s.params := rfl
@[simp] theorem setCfg_pt (c : CfgRegs) : (s.setCfg c).pt = s.pt := rfl
@[simp] theorem setCfg_rt (c : CfgRegs) : (s.setCfg c).rt = s.rt := rfl
@[simp] theorem setCfg_vst (c : CfgRegs) : (s.setCfg c).vst = s.vst := rfl
@[simp] theorem setCfg_dt (c : CfgRegs) : (s.setCfg c).dt = s.dt := rfl
@[simp] theorem setCfg_ports (c : CfgRegs) : (s.setCfg c).ports = s.ports := rfl
@[simp] theorem setCfg_pads (c : CfgRegs) : (s.setCfg c).pads = s.pads := rfl
@[simp] theorem setCfg_cfg (c : CfgRegs) : (s.setCfg c).cfg = c := rfl
@[simp] theorem setCfg_irq (c : CfgRegs) : (s.setCfg c).irq = s.irq := rfl
@[simp] theorem setCfg_err (c : CfgRegs) : (s.setCfg c).err = s.err := rfl
@[simp] theorem setCfg_answer (c : CfgRegs) : (s.setCfg c).answer = s.answer := rfl
@[simp] theorem setCfg_schedule (c : CfgRegs) : (s.setCfg c).schedule = s.schedule := rfl
@[simp] theorem setCfg_port (c : CfgRegs) : (s.setCfg c).port loc = s.port loc := rfl
@[simp] theorem setCfg_pad (c : CfgRegs) : (s.setCfg c).pad loc = s.pad loc := rfl
@[simp] theorem setCfg_pinlvl (c : CfgRegs) : (s.setCfg c).pinlvl loc = s.pinlvl loc := rfl

@[simp] theorem setIrq_params (q : Irq) : (s.setIrq q).params = s.params := rfl
@[simp] theorem setIrq_pt (q : Irq) : (s.setIrq q).pt = s.pt := rfl
@[simp] theorem setIrq_rt (q : Irq) : (s.setIrq q).rt = s.rt := rfl
@[simp] theorem setIrq_vst (q : Irq) : (s.setIrq q).vst = s.vst := rfl
@[simp] theorem setIrq_dt (q : Irq) : (s.setIrq q).dt = s.dt := rfl
@[simp] theorem setIrq_ports (q : Irq) : (s.setIrq q).ports = s.ports := rfl
@[simp] theorem setIrq_pads (q : Irq) : (s.setIrq q).pads = s.pads := rfl
@[simp] theorem setIrq_cfg (q : Irq) : (s.setIrq q).cfg = s.cfg := rfl
@[simp] theorem setIrq_irq (q : Irq) : (s.setIrq q).irq = q := rfl
@[simp] theorem setIrq_err (q : Irq) : (s.setIrq q).err = s.err := rfl
@[simp] theorem setIrq_answer (q : Irq) : (s.setIrq q).answer = s.answer := rfl
@[simp] theorem setIrq_schedule (q : Irq) : (s.setIrq q).schedule = s.schedule := rfl
@[simp] theorem setIrq_port (q : Irq) : (s.setIrq q).port loc = s.port loc := rfl
@[simp] theorem setIrq_pad (q : Irq) : (s.setIrq q).pad loc = s.pad loc := rfl
@[simp] theorem setIrq_pinlvl (q : Irq) : (s.setIrq q).pinlvl loc = s.pinlvl loc := rfl

@[simp] theorem setErr_params (r : ErrRecord) : (s.setErr r).params = s.params := rfl
@[simp] theorem setErr_pt (r : ErrRecord) : (s.setErr r).pt = s.pt := rfl
@[simp] theorem setErr_rt (r : ErrRecord) : (s.setErr r).rt = s.rt := rfl
@[simp] theorem setErr_vst (r : ErrRecord) : (s.setErr r).vst = s.vst := rfl
@[simp] theorem setErr_dt (r : ErrRecord) : (s.setErr r).dt = s.dt := rfl
@[simp] theorem setErr_ports (r : ErrRecord) : (s.setErr r).ports = s.ports := rfl
@[simp] theorem setErr_pads (r : ErrRecord) : (s.setErr r).pads = s.pads := rfl
@[simp] theorem setErr_cfg (r : ErrRecord) : (s.setErr r).cfg = s.cfg := rfl
@[simp] theorem setErr_irq (r : ErrRecord) : (s.setErr r).irq = s.irq := rfl
@[simp] theorem setErr_err (r : ErrRecord) : (s.setErr r).err = r := rfl
@[simp] theorem setErr_answer (r : ErrRecord) : (s.setErr r).answer = s.answer := rfl
@[simp] theorem setErr_schedule (r : ErrRecord) : (s.setErr r).schedule = s.schedule := rfl
@[simp] theorem setErr_port (r : ErrRecord) : (s.setErr r).port loc = s.port loc := rfl
@[simp] theorem setErr_pad (r : ErrRecord) : (s.setErr r).pad loc = s.pad loc := rfl
@[simp] theorem setErr_pinlvl (r : ErrRecord) : (s.setErr r).pinlvl loc = s.pinlvl loc := rfl

@[simp] theorem setAnswer_params (a : Answer) : (s.setAnswer a).params = s.params := rfl
@[simp] theorem setAnswer_pt (a : Answer) : (s.setAnswer a).pt = s.pt := rfl
@[simp] theorem setAnswer_rt (a : Answer) : (s.setAnswer a).rt = s.rt := rfl
@[simp] theorem setAnswer_vst (a : Answer) : (s.setAnswer a).vst = s.vst := rfl
@[simp] theorem setAnswer_dt (a : Answer) : (s.setAnswer a).dt = s.dt := rfl
@[simp] theorem setAnswer_ports (a : Answer) : (s.setAnswer a).ports = s.ports := rfl
@[simp] theorem setAnswer_pads (a : Answer) : (s.setAnswer a).pads = s.pads := rfl
@[simp] theorem setAnswer_cfg (a : Answer) : (s.setAnswer a).cfg = s.cfg := rfl
@[simp] theorem setAnswer_irq (a : Answer) : (s.setAnswer a).irq = s.irq := rfl
@[simp] theorem setAnswer_err (a : Answer) : (s.setAnswer a).err = s.err := rfl
@[simp] theorem setAnswer_answer (a : Answer) : (s.setAnswer a).answer = a := rfl
@[simp] theorem setAnswer_schedule (a : Answer) : (s.setAnswer a).schedule = s.schedule := rfl
@[simp] theorem setAnswer_port (a : Answer) : (s.setAnswer a).port loc = s.port loc := rfl
@[simp] theorem setAnswer_pad (a : Answer) : (s.setAnswer a).pad loc = s.pad loc := rfl
@[simp] theorem setAnswer_pinlvl (a : Answer) : (s.setAnswer a).pinlvl loc = s.pinlvl loc := rfl

@[simp] theorem setSchedule_params (es : List Event) : (s.setSchedule es).params = s.params := rfl
@[simp] theorem setSchedule_pt (es : List Event) : (s.setSchedule es).pt = s.pt := rfl
@[simp] theorem setSchedule_rt (es : List Event) : (s.setSchedule es).rt = s.rt := rfl
@[simp] theorem setSchedule_vst (es : List Event) : (s.setSchedule es).vst = s.vst := rfl
@[simp] theorem setSchedule_dt (es : List Event) : (s.setSchedule es).dt = s.dt := rfl
@[simp] theorem setSchedule_ports (es : List Event) : (s.setSchedule es).ports = s.ports := rfl
@[simp] theorem setSchedule_pads (es : List Event) : (s.setSchedule es).pads = s.pads := rfl
@[simp] theorem setSchedule_cfg (es : List Event) : (s.setSchedule es).cfg = s.cfg := rfl
@[simp] theorem setSchedule_irq (es : List Event) : (s.setSchedule es).irq = s.irq := rfl
@[simp] theorem setSchedule_err (es : List Event) : (s.setSchedule es).err = s.err := rfl
@[simp] theorem setSchedule_answer (es : List Event) : (s.setSchedule es).answer = s.answer := rfl
@[simp] theorem setSchedule_schedule (es : List Event) : (s.setSchedule es).schedule = es := rfl
@[simp] theorem setSchedule_port (es : List Event) : (s.setSchedule es).port loc = s.port loc := rfl
@[simp] theorem setSchedule_pad (es : List Event) : (s.setSchedule es).pad loc = s.pad loc := rfl
@[simp] theorem setSchedule_pinlvl (es : List Event) : (s.setSchedule es).pinlvl loc = s.pinlvl loc := rfl

@[simp] theorem setPort_params (r : PortRegs) : (s.setPort loc r).params = s.params := rfl
@[simp] theorem setPort_pt (r : PortRegs) : (s.setPort loc r).pt = s.pt := rfl
@[simp] theorem setPort_rt (r : PortRegs) : (s.setPort loc r).rt = s.rt := rfl
@[simp] theorem setPort_vst (r : PortRegs) : (s.setPort loc r).vst = s.vst := rfl
@[simp] theorem setPort_dt (r : PortRegs) : (s.setPort loc r).dt = s.dt := rfl
@[simp] theorem setPort_pads (r : PortRegs) : (s.setPort loc r).pads = s.pads := rfl
@[simp] theorem setPort_cfg (r : PortRegs) : (s.setPort loc r).cfg = s.cfg := rfl
@[simp] theorem setPort_irq (r : PortRegs) : (s.setPort loc r).irq = s.irq := rfl
@[simp] theorem setPort_err (r : PortRegs) : (s.setPort loc r).err = s.err := rfl
@[simp] theorem setPort_answer (r : PortRegs) : (s.setPort loc r).answer = s.answer := rfl
@[simp] theorem setPort_schedule (r : PortRegs) : (s.setPort loc r).schedule = s.schedule := rfl
@[simp] theorem setPad_params (v : Port) : (s.setPad loc v).params = s.params := rfl
@[simp] theorem setPad_pt (v : Port) : (s.setPad loc v).pt = s.pt := rfl
@[simp] theorem setPad_rt (v : Port) : (s.setPad loc v).rt = s.rt := rfl
@[simp] theorem setPad_vst (v : Port) : (s.setPad loc v).vst = s.vst := rfl
@[simp] theorem setPad_dt (v : Port) : (s.setPad loc v).dt = s.dt := rfl
@[simp] theorem setPad_ports (v : Port) : (s.setPad loc v).ports = s.ports := rfl
@[simp] theorem setPad_cfg (v : Port) : (s.setPad loc v).cfg = s.cfg := rfl
@[simp] theorem setPad_irq (v : Port) : (s.setPad loc v).irq = s.irq := rfl
@[simp] theorem setPad_err (v : Port) : (s.setPad loc v).err = s.err := rfl
@[simp] theorem setPad_answer (v : Port) : (s.setPad loc v).answer = s.answer := rfl
@[simp] theorem setPad_schedule (v : Port) : (s.setPad loc v).schedule = s.schedule := rfl

@[simp] theorem setPort_pad (r : PortRegs) : (s.setPort loc r).pad loc' = s.pad loc' := rfl
@[simp] theorem setPad_port (v : Port) : (s.setPad loc v).port loc' = s.port loc' := rfl

@[simp] theorem setPort_port_same (r : PortRegs) : (s.setPort loc r).port loc = r := by
  simp [State.setPort, State.port]

/-- A write to the registers of one location leaves every other location alone. -/
@[simp] theorem setPort_port_ne (r : PortRegs) (h : loc' ≠ loc) : (s.setPort loc r).port loc' = s.port loc' := by
  have h' : loc.toNat ≠ loc'.toNat := fun e => h (BitVec.eq_of_toNat_eq e.symm)
  simp [State.setPort, State.port, h']

@[simp] theorem setPad_pad_same (v : Port) : (s.setPad loc v).pad loc = v := by
  simp [State.setPad, State.pad]

@[simp] theorem setPad_pad_ne (v : Port) (h : loc' ≠ loc) : (s.setPad loc v).pad loc' = s.pad loc' := by
  have h' : loc.toNat ≠ loc'.toNat := fun e => h (BitVec.eq_of_toNat_eq e.symm)
  simp [State.setPad, State.pad, h']

theorem setPort_port (r : PortRegs) : (s.setPort loc r).port loc' = if loc' = loc then r else s.port loc' := by
  split
  · next h => subst h; simp
  · next h => simp [h]

theorem setPad_pad (v : Port) : (s.setPad loc v).pad loc' = if loc' = loc then v else s.pad loc' := by
  split
  · next h => subst h; simp
  · next h => simp [h]

theorem setPad_pinlvl_ne (v : Port) (h : loc' ≠ loc) : (s.setPad loc v).pinlvl loc' = s.pinlvl loc' := by
  simp [State.pinlvl, h]

theorem setPort_pinlvl_ne (r : PortRegs) (h : loc' ≠ loc) : (s.setPort loc r).pinlvl loc' = s.pinlvl loc' := by
  simp [State.pinlvl, h]

@[simp] theorem setPort_setPort (r r' : PortRegs) : (s.setPort loc r).setPort loc r' = s.setPort loc r' := by
  simp [State.setPort, Vector.set_set]

@[simp] theorem setPort_port_self : s.setPort loc (s.port loc) = s := by
  simp [State.setPort, State.port]

/-- The bit of a pin level: the latch on an output pin, the pad on an input pin (10_state.md R17). -/
theorem pinlvl_bit (b : Nat) : (s.pinlvl loc).getLsbD b =
    if (s.port loc).dir.getLsbD b then (s.port loc).out.getLsbD b else (s.pad loc).getLsbD b := by
  by_cases hb : b < 16
  · rw [BitVec.getLsbD_eq_getElem hb]
    cases h : (s.port loc).dir[b] <;> simp [State.pinlvl, h, hb]
  · have h1 : ∀ v : Port, v.getLsbD b = false := fun v => BitVec.getLsbD_of_ge v b (by omega)
    simp [h1]

end Sys2Proof.Machine
end

