-- ==== Sys2Proof/Laws/Ops.lean ====
section
/-! SUPPORT. One lemma per shared operation that says everything it can do, and the fields each leaves alone: the
interrupt bits, firing, withdrawing, failing, the width check, pin-change detection, saturation, the period search
and the descriptor check, and the sticky bits of the two parts of the base tick. Proofs cite these and do not unfold
the operations. -/

namespace Sys2Proof.Machine

variable (s : State) (src src' : Src) (loc loc' : Loc)

/-- The bits of a source after a write to a source. -/
@[simp] theorem irq_get_set (q : Irq) (b : IrqBits) : (q.set src b).get src' = if src' = src then b else q.get src' := by
  cases src <;> cases src' <;> rfl

@[simp] theorem irq_get_setPend (q : Irq) (v : Bool) :
    (q.setPend src v).get src' = if src' = src then { q.get src with pend := v } else q.get src' := by
  simp [Irq.setPend]

/-- Two interrupt states with the same bits for every source are the same. -/
theorem irq_ext {q q' : Irq} (h : ∀ src, q.get src = q'.get src) : q = q' := by
  have h0 := h .pulse
  have h1 := h .reset
  have h2 := h .debounce
  have h3 := h .change
  cases q; cases q'
  simp_all [Irq.get]

/-- Which sticky bits are set after one more is set. -/
@[simp] theorem stick_bit (r : ErrRecord) (n m : Nat) (hm : m < 10) :
    (r.stick n).status[m] = (r.status[m] || decide (m = n)) := by
  rcases Nat.lt_trichotomy m n with h | h | h
  · simp [ErrRecord.stick, Nat.ne_of_lt h, h]
  · subst h
    simp [ErrRecord.stick]
  · simp [ErrRecord.stick, Nat.ne_of_gt h, Nat.not_lt_of_gt h, Nat.sub_ne_zero_of_lt h]

@[simp] theorem stick_info (r : ErrRecord) (n : Nat) : (r.stick n).info = r.info := rfl

@[simp] theorem stickIf_bit (r : ErrRecord) (c : Bool) (n m : Nat) (hm : m < 10) :
    (r.stickIf c n).status[m] = (r.status[m] || (c && decide (m = n))) := by
  cases c <;> simp [ErrRecord.stickIf]

@[simp] theorem stickIf_info (r : ErrRecord) (c : Bool) (n : Nat) : (r.stickIf c n).info = r.info := by
  cases c <;> rfl

@[simp] theorem record_info (r : ErrRecord) (e : Err) (x : Xact) : (r.record e x).info = errInfoOf e x := rfl
@[simp] theorem record_status (r : ErrRecord) (e : Err) (x : Xact) :
    (r.record e x).status = (r.stick (errSticky e)).status := rfl

/-- Setting a sticky bit clears none (10_state.md R22). -/
theorem stick_mono (r : ErrRecord) (n : Nat) : r.status &&& (r.stick n).status = r.status := by
  apply BitVec.eq_of_getElem_eq; intro i hi
  simp
  grind

theorem stickIf_mono (r : ErrRecord) (c : Bool) (n : Nat) : r.status &&& (r.stickIf c n).status = r.status := by
  cases c
  · simp [ErrRecord.stickIf]
  · simp [ErrRecord.stickIf, stick_mono]

/-! Firing (60_exceptions.md R208): the pending bit and the error record. -/

@[simp] theorem fire_irq : (fire src s).irq = s.irq.setPend src true := rfl
@[simp] theorem fire_err : (fire src s).err =
    (s.err.stickIf (s.irq.get src).pend (overrunBit src)).stickIf (!(s.irq.get src).reg) nocbBit := rfl
@[simp] theorem fire_params : (fire src s).params = s.params := rfl
@[simp] theorem fire_pt : (fire src s).pt = s.pt := rfl
@[simp] theorem fire_rt : (fire src s).rt = s.rt := rfl
@[simp] theorem fire_vst : (fire src s).vst = s.vst := rfl
@[simp] theorem fire_dt : (fire src s).dt = s.dt := rfl
@[simp] theorem fire_ports : (fire src s).ports = s.ports := rfl
@[simp] theorem fire_pads : (fire src s).pads = s.pads := rfl
@[simp] theorem fire_cfg : (fire src s).cfg = s.cfg := rfl
@[simp] theorem fire_answer : (fire src s).answer = s.answer := rfl
@[simp] theorem fire_schedule : (fire src s).schedule = s.schedule := rfl
@[simp] theorem fire_port : (fire src s).port loc' = s.port loc' := rfl
@[simp] theorem fire_pad : (fire src s).pad loc' = s.pad loc' := rfl
@[simp] theorem fire_pinlvl : (fire src s).pinlvl loc' = s.pinlvl loc' := rfl

/-! Withdrawing, taking and ending a request (60_exceptions.md R212, R213, R216): the interrupt state only. -/

@[simp] theorem cancel_params : (cancel src s).params = s.params := rfl
@[simp] theorem cancel_pt : (cancel src s).pt = s.pt := rfl
@[simp] theorem cancel_rt : (cancel src s).rt = s.rt := rfl
@[simp] theorem cancel_vst : (cancel src s).vst = s.vst := rfl
@[simp] theorem cancel_dt : (cancel src s).dt = s.dt := rfl
@[simp] theorem cancel_ports : (cancel src s).ports = s.ports := rfl
@[simp] theorem cancel_pads : (cancel src s).pads = s.pads := rfl
@[simp] theorem cancel_cfg : (cancel src s).cfg = s.cfg := rfl
@[simp] theorem cancel_err : (cancel src s).err = s.err := rfl
@[simp] theorem cancel_answer : (cancel src s).answer = s.answer := rfl
@[simp] theorem cancel_schedule : (cancel src s).schedule = s.schedule := rfl
@[simp] theorem cancel_port : (cancel src s).port loc' = s.port loc' := rfl
@[simp] theorem cancel_pad : (cancel src s).pad loc' = s.pad loc' := rfl
@[simp] theorem cancel_pinlvl : (cancel src s).pinlvl loc' = s.pinlvl loc' := rfl

@[simp] theorem takeIrq_params : (takeIrq src s).params = s.params := rfl
@[simp] theorem takeIrq_pt : (takeIrq src s).pt = s.pt := rfl
@[simp] theorem takeIrq_rt : (takeIrq src s).rt = s.rt := rfl
@[simp] theorem takeIrq_vst : (takeIrq src s).vst = s.vst := rfl
@[simp] theorem takeIrq_dt : (takeIrq src s).dt = s.dt := rfl
@[simp] theorem takeIrq_ports : (takeIrq src s).ports = s.ports := rfl
@[simp] theorem takeIrq_pads : (takeIrq src s).pads = s.pads := rfl
@[simp] theorem takeIrq_cfg : (takeIrq src s).cfg = s.cfg := rfl
@[simp] theorem takeIrq_err : (takeIrq src s).err = s.err := rfl
@[simp] theorem takeIrq_answer : (takeIrq src s).answer = s.answer := rfl
@[simp] theorem takeIrq_schedule : (takeIrq src s).schedule = s.schedule := rfl
@[simp] theorem takeIrq_port : (takeIrq src s).port loc' = s.port loc' := rfl
@[simp] theorem takeIrq_pad : (takeIrq src s).pad loc' = s.pad loc' := rfl
@[simp] theorem takeIrq_pinlvl : (takeIrq src s).pinlvl loc' = s.pinlvl loc' := rfl

@[simp] theorem doneIrq_params : (doneIrq src s).params = s.params := rfl
@[simp] theorem doneIrq_pt : (doneIrq src s).pt = s.pt := rfl
@[simp] theorem doneIrq_rt : (doneIrq src s).rt = s.rt := rfl
@[simp] theorem doneIrq_vst : (doneIrq src s).vst = s.vst := rfl
@[simp] theorem doneIrq_dt : (doneIrq src s).dt = s.dt := rfl
@[simp] theorem doneIrq_ports : (doneIrq src s).ports = s.ports := rfl
@[simp] theorem doneIrq_pads : (doneIrq src s).pads = s.pads := rfl
@[simp] theorem doneIrq_cfg : (doneIrq src s).cfg = s.cfg := rfl
@[simp] theorem doneIrq_err : (doneIrq src s).err = s.err := rfl
@[simp] theorem doneIrq_answer : (doneIrq src s).answer = s.answer := rfl
@[simp] theorem doneIrq_schedule : (doneIrq src s).schedule = s.schedule := rfl
@[simp] theorem doneIrq_port : (doneIrq src s).port loc' = s.port loc' := rfl
@[simp] theorem doneIrq_pad : (doneIrq src s).pad loc' = s.pad loc' := rfl
@[simp] theorem doneIrq_pinlvl : (doneIrq src s).pinlvl loc' = s.pinlvl loc' := rfl

@[simp] theorem cancel_irq : (cancel src s).irq = s.irq.setPend src false := rfl
@[simp] theorem takeIrq_irq : (takeIrq src s).irq = s.irq.set src { s.irq.get src with pend := false, inserv := true } := rfl
@[simp] theorem doneIrq_irq : (doneIrq src s).irq = s.irq.set src { s.irq.get src with inserv := false } := rfl

/-! Failing (60_exceptions.md R205): the error record and the answer only. -/

@[simp] theorem fail_params (e : Err) (x : Xact) : (fail e x s).params = s.params := rfl
@[simp] theorem fail_pt (e : Err) (x : Xact) : (fail e x s).pt = s.pt := rfl
@[simp] theorem fail_rt (e : Err) (x : Xact) : (fail e x s).rt = s.rt := rfl
@[simp] theorem fail_vst (e : Err) (x : Xact) : (fail e x s).vst = s.vst := rfl
@[simp] theorem fail_dt (e : Err) (x : Xact) : (fail e x s).dt = s.dt := rfl
@[simp] theorem fail_ports (e : Err) (x : Xact) : (fail e x s).ports = s.ports := rfl
@[simp] theorem fail_pads (e : Err) (x : Xact) : (fail e x s).pads = s.pads := rfl
@[simp] theorem fail_cfg (e : Err) (x : Xact) : (fail e x s).cfg = s.cfg := rfl
@[simp] theorem fail_irq (e : Err) (x : Xact) : (fail e x s).irq = s.irq := rfl
@[simp] theorem fail_schedule (e : Err) (x : Xact) : (fail e x s).schedule = s.schedule := rfl
@[simp] theorem fail_port (e : Err) (x : Xact) : (fail e x s).port loc' = s.port loc' := rfl
@[simp] theorem fail_pad (e : Err) (x : Xact) : (fail e x s).pad loc' = s.pad loc' := rfl
@[simp] theorem fail_pinlvl (e : Err) (x : Xact) : (fail e x s).pinlvl loc' = s.pinlvl loc' := rfl

@[simp] theorem fail_err (e : Err) (x : Xact) : (fail e x s).err = s.err.record e x := rfl
@[simp] theorem fail_answer (e : Err) (x : Xact) : (fail e x s).answer = ⟨.err e, 0⟩ := rfl

/-! The width check (43_reset_timer.md R147): one sticky bit. -/

@[simp] theorem widthCheck_params (d1 : Nat) : (widthCheck d1 s).params = s.params := rfl
@[simp] theorem widthCheck_pt (d1 : Nat) : (widthCheck d1 s).pt = s.pt := rfl
@[simp] theorem widthCheck_rt (d1 : Nat) : (widthCheck d1 s).rt = s.rt := rfl
@[simp] theorem widthCheck_vst (d1 : Nat) : (widthCheck d1 s).vst = s.vst := rfl
@[simp] theorem widthCheck_dt (d1 : Nat) : (widthCheck d1 s).dt = s.dt := rfl
@[simp] theorem widthCheck_ports (d1 : Nat) : (widthCheck d1 s).ports = s.ports := rfl
@[simp] theorem widthCheck_pads (d1 : Nat) : (widthCheck d1 s).pads = s.pads := rfl
@[simp] theorem widthCheck_cfg (d1 : Nat) : (widthCheck d1 s).cfg = s.cfg := rfl
@[simp] theorem widthCheck_irq (d1 : Nat) : (widthCheck d1 s).irq = s.irq := rfl
@[simp] theorem widthCheck_answer (d1 : Nat) : (widthCheck d1 s).answer = s.answer := rfl
@[simp] theorem widthCheck_schedule (d1 : Nat) : (widthCheck d1 s).schedule = s.schedule := rfl
@[simp] theorem widthCheck_port (d1 : Nat) : (widthCheck d1 s).port loc' = s.port loc' := rfl
@[simp] theorem widthCheck_pad (d1 : Nat) : (widthCheck d1 s).pad loc' = s.pad loc' := rfl
@[simp] theorem widthCheck_pinlvl (d1 : Nat) : (widthCheck d1 s).pinlvl loc' = s.pinlvl loc' := rfl

@[simp] theorem widthCheck_err (d1 : Nat) :
    (widthCheck d1 s).err = s.err.stickIf (widthGePeriod s.params s.pt d1) widthBit := rfl

/-- Pin-change detection (41_gpio_engine.md R108): the CHANGE source fires or nothing happens. -/
theorem pcDetect_cases (old new : Port) :
    (pcDetect loc old new s = fire .change s ∧ (old ^^^ new) &&& (s.port loc).pcmsk ≠ 0) ∨
      (pcDetect loc old new s = s ∧ (old ^^^ new) &&& (s.port loc).pcmsk = 0) := by
  unfold pcDetect
  split
  · next h => exact .inl ⟨rfl, h⟩
  · next h => exact .inr ⟨rfl, by simpa using h⟩

@[simp] theorem pcDetect_params (old new : Port) : (pcDetect loc old new s).params = s.params := by
  rcases pcDetect_cases s loc old new with h | h <;> (rw [h.1]; try rfl)
@[simp] theorem pcDetect_pt (old new : Port) : (pcDetect loc old new s).pt = s.pt := by
  rcases pcDetect_cases s loc old new with h | h <;> (rw [h.1]; try rfl)
@[simp] theorem pcDetect_rt (old new : Port) : (pcDetect loc old new s).rt = s.rt := by
  rcases pcDetect_cases s loc old new with h | h <;> (rw [h.1]; try rfl)
@[simp] theorem pcDetect_vst (old new : Port) : (pcDetect loc old new s).vst = s.vst := by
  rcases pcDetect_cases s loc old new with h | h <;> (rw [h.1]; try rfl)
@[simp] theorem pcDetect_dt (old new : Port) : (pcDetect loc old new s).dt = s.dt := by
  rcases pcDetect_cases s loc old new with h | h <;> (rw [h.1]; try rfl)
@[simp] theorem pcDetect_ports (old new : Port) : (pcDetect loc old new s).ports = s.ports := by
  rcases pcDetect_cases s loc old new with h | h <;> (rw [h.1]; try rfl)
@[simp] theorem pcDetect_pads (old new : Port) : (pcDetect loc old new s).pads = s.pads := by
  rcases pcDetect_cases s loc old new with h | h <;> (rw [h.1]; try rfl)
@[simp] theorem pcDetect_cfg (old new : Port) : (pcDetect loc old new s).cfg = s.cfg := by
  rcases pcDetect_cases s loc old new with h | h <;> (rw [h.1]; try rfl)
@[simp] theorem pcDetect_answer (old new : Port) : (pcDetect loc old new s).answer = s.answer := by
  rcases pcDetect_cases s loc old new with h | h <;> (rw [h.1]; try rfl)
@[simp] theorem pcDetect_schedule (old new : Port) : (pcDetect loc old new s).schedule = s.schedule := by
  rcases pcDetect_cases s loc old new with h | h <;> (rw [h.1]; try rfl)
@[simp] theorem pcDetect_port (old new : Port) : (pcDetect loc old new s).port loc' = s.port loc' := by
  rcases pcDetect_cases s loc old new with h | h <;> (rw [h.1]; try rfl)
@[simp] theorem pcDetect_pad (old new : Port) : (pcDetect loc old new s).pad loc' = s.pad loc' := by
  rcases pcDetect_cases s loc old new with h | h <;> (rw [h.1]; try rfl)
@[simp] theorem pcDetect_pinlvl (old new : Port) : (pcDetect loc old new s).pinlvl loc' = s.pinlvl loc' := by
  rcases pcDetect_cases s loc old new with h | h <;> (rw [h.1]; try rfl)

/-- A port write by the GPIO Engine (41_gpio_engine.md R102 to R104): the registers are replaced, and CHANGE fires or
nothing else happens. -/
theorem writePort_cases (r : PortRegs) :
    writePort s loc r = fire .change (s.setPort loc r) ∨ writePort s loc r = s.setPort loc r := by
  rcases pcDetect_cases (s.setPort loc r) loc (s.pinlvl loc) ((s.setPort loc r).pinlvl loc) with h | h
  · exact .inl h.1
  · exact .inr h.1

@[simp] theorem writePort_params (r : PortRegs) : (writePort s loc r).params = s.params := by
  simp [writePort]
@[simp] theorem writePort_pt (r : PortRegs) : (writePort s loc r).pt = s.pt := by
  simp [writePort]
@[simp] theorem writePort_rt (r : PortRegs) : (writePort s loc r).rt = s.rt := by
  simp [writePort]
@[simp] theorem writePort_vst (r : PortRegs) : (writePort s loc r).vst = s.vst := by
  simp [writePort]
@[simp] theorem writePort_dt (r : PortRegs) : (writePort s loc r).dt = s.dt := by
  simp [writePort]
@[simp] theorem writePort_pads (r : PortRegs) : (writePort s loc r).pads = s.pads := by
  simp [writePort]
@[simp] theorem writePort_cfg (r : PortRegs) : (writePort s loc r).cfg = s.cfg := by
  simp [writePort]
@[simp] theorem writePort_answer (r : PortRegs) : (writePort s loc r).answer = s.answer := by
  simp [writePort]
@[simp] theorem writePort_schedule (r : PortRegs) : (writePort s loc r).schedule = s.schedule := by
  simp [writePort]
@[simp] theorem writePort_port (r : PortRegs) : (writePort s loc r).port loc' = (s.setPort loc r).port loc' := by
  simp [writePort]
@[simp] theorem writePort_pad (r : PortRegs) : (writePort s loc r).pad loc' = s.pad loc' := by
  simp [writePort]

/-- Saturation (00_scope.md R9): within the bounds when they are in order, and always one of the three values. -/
theorem clamp_cases (v lo hi : Nat) : (v < lo ∧ clamp v lo hi = lo) ∨ (lo ≤ v ∧ hi < v ∧ clamp v lo hi = hi) ∨
    (lo ≤ v ∧ v ≤ hi ∧ clamp v lo hi = v) := by
  unfold clamp
  split
  · exact .inl ⟨‹_›, rfl⟩
  · split
    · exact .inr (.inl ⟨by omega, ‹_›, rfl⟩)
    · exact .inr (.inr ⟨by omega, by omega, rfl⟩)

theorem clamp_le_of_le {v lo hi b : Nat} (h1 : lo ≤ b) (h2 : hi ≤ b) : clamp v lo hi ≤ b := by
  rcases clamp_cases v lo hi with h | h | h <;> omega

theorem le_clamp_of_le {v lo hi : Nat} (h : lo ≤ hi) : lo ≤ clamp v lo hi := by
  rcases clamp_cases v lo hi with h | h | h <;> omega

theorem saturate_lt (w v : Nat) : saturate w v < 2 ^ w := by
  have := Nat.two_pow_pos w
  unfold saturate
  omega

/-- The effective delay of a reset arm is at least one tick and fits the counter (43_reset_timer.md R141). -/
theorem rtDelay_bounds {P : Params} (h : 1 ≤ P.rtW) (d : Word) : 1 ≤ rtDelay P d ∧ rtDelay P d < 2 ^ P.rtW := by
  have h2 : 2 ^ 1 ≤ 2 ^ P.rtW := Nat.pow_le_pow_right (by omega) h
  unfold rtDelay
  rcases clamp_cases d.toNat 1 (2 ^ P.rtW - 1) with h' | h' | h' <;> omega

/-- The delay of a debounce window is at least one tick and fits the counter (45_debounce_timer.md R171). -/
theorem dtDelay_bounds {s : State} (h : 1 ≤ s.params.dtW) : 1 ≤ dtDelay s ∧ dtDelay s < 2 ^ s.params.dtW := by
  have h2 : 2 ^ 1 ≤ 2 ^ s.params.dtW := Nat.pow_le_pow_right (by omega) h
  unfold dtDelay
  rcases clamp_cases s.cfg.debounce 1 (2 ^ s.params.dtW - 1) with h' | h' | h' <;> omega

/-- The period search (42_pulse_timer.md R122): what a found pair is, and that no earlier prescaler fits. -/
theorem ptSearch_some {w p1 : Nat} : ∀ {ks : List Nat} {sel sel' cmp : Nat}, ptSearch w p1 sel ks = some (sel', cmp) →
    ∃ j, sel' = sel + j ∧ j < ks.length ∧ p1 >>> ks.getD j 0 ≤ 2 ^ w ∧ cmp = p1 >>> ks.getD j 0 - 1 ∧
      ∀ i, i < j → 2 ^ w < p1 >>> ks.getD i 0
  | [], _, _, _, h => by simp [ptSearch] at h
  | k :: ks, sel, sel', cmp, h => by
    unfold ptSearch at h
    split at h
    · next hk =>
      simp only [Option.some.injEq, Prod.mk.injEq] at h
      exact ⟨0, by omega, by simp, by simpa using hk, by simpa using h.2.symm, by omega⟩
    · next hk =>
      obtain ⟨j, h1, h2, h3, h4, h5⟩ := ptSearch_some h
      refine ⟨j + 1, by omega, by simpa using h2, by simpa using h3, by simpa using h4, ?_⟩
      intro i hi
      cases i with
      | zero => simpa using hk
      | succ i => simpa using h5 i (by omega)

/-- The search fails only when no quotient fits. -/
theorem ptSearch_none {w p1 : Nat} : ∀ {ks : List Nat} {sel : Nat}, ptSearch w p1 sel ks = none →
    ∀ i, i < ks.length → 2 ^ w < p1 >>> ks.getD i 0
  | [], _, _ => by simp
  | k :: ks, sel, h => by
    unfold ptSearch at h
    split at h
    · simp at h
    · next hk =>
      intro i hi
      cases i with
      | zero => simpa using hk
      | succ i => simpa using ptSearch_none h i (by simpa using hi)

/-- The descriptor check (41_gpio_engine.md R100): what a descriptor it lets through is. -/
theorem gpCheck_some {P : Params} {desc : DescIdx} {ks : List Kind} {ds : List Dir} {d : Descriptor}
    (h : gpCheck P desc ks ds = some d) :
    P.profile.desc[desc.toNat]? = some d ∧ d.valid = true ∧ d.kind ∈ ks ∧ d.dir ∈ ds := by
  simp only [gpCheck] at h
  split at h
  · simp at h
  split at h
  · simp at h
  split at h
  · simp at h
  split at h
  · simp at h
  next h1 h2 h3 h4 =>
    simp only [Option.some.injEq] at h
    subst h
    have hlt : desc.toNat < P.profile.desc.length := by simpa [Params.ndesc] using h1
    refine ⟨?_, by simpa using h2, by simpa using h3, by simpa using h4⟩
    simp [descAt, hlt]

/-- The descriptor check fails exactly for an index that is not bound to an entry of the wanted kinds and directions. -/
theorem gpCheck_eq_none_iff {P : Params} {desc : DescIdx} {ks : List Kind} {ds : List Dir} :
    gpCheck P desc ks ds = none ↔ P.Bound desc ks ds = false := by
  unfold gpCheck Params.Bound descAt Params.ndesc
  by_cases h : desc.toNat < P.profile.desc.length
  · simp [h, Nat.not_le.mpr h]
  · simp [h]

/-- The descriptor check lets a bound entry of the wanted kinds and directions through. -/
theorem gpCheck_eq_some {P : Params} {desc : DescIdx} {ks : List Kind} {ds : List Dir} {d : Descriptor}
    (h : P.profile.desc[desc.toNat]? = some d) (hv : d.valid = true) (hk : d.kind ∈ ks) (hd : d.dir ∈ ds) :
    gpCheck P desc ks ds = some d := by
  obtain ⟨h1, _⟩ := List.getElem?_eq_some_iff.mp h
  have h2 : ¬ P.ndesc ≤ desc.toNat := by unfold Params.ndesc; omega
  simp [gpCheck, descAt, h, hv, hk, hd, h2]

/-- The bits of a port register that exist are the low `PORT_W` (10_state.md R16). -/
theorem portMask_bit (P : Params) {b : Nat} (hb : b < 16) : P.portMask.getLsbD b = decide (b < P.portW) := by
  unfold Params.portMask
  rw [BitVec.getLsbD_ofNat, Nat.testBit_two_pow_sub_one]
  simp [hb]

/-- The bits of a port operand: those of the operand below `PORT_W`. -/
theorem portBits_bit (P : Params) {n : Nat} (v : BitVec n) {b : Nat} (hb : b < 16) :
    (portBits P v).getLsbD b = (v.getLsbD b && decide (b < P.portW)) := by
  rw [portBits, BitVec.getLsbD_and, portMask_bit P hb]
  simp [hb]

/-- A mask write touches the bits of the mask only (41_gpio_engine.md R110). -/
theorem maskMerge_bit (reg m v : Port) (b : Nat) :
    (maskMerge reg m v).getLsbD b = if m.getLsbD b then v.getLsbD b else reg.getLsbD b := by
  by_cases hb : b < 16
  · simp only [maskMerge, BitVec.getLsbD_or, BitVec.getLsbD_and, BitVec.getLsbD_not, hb]
    cases m.getLsbD b <;> simp
  · simp [BitVec.getLsbD_of_ge, Nat.le_of_not_lt hb]

theorem maskWrite_bit (reg m : Port) (v : Bool) (b : Nat) :
    (maskWrite reg m v).getLsbD b = if m.getLsbD b then v else reg.getLsbD b := by
  by_cases hb : b < 16
  · unfold maskWrite
    cases v
    · simp only [Bool.false_eq_true, if_false, BitVec.getLsbD_and, BitVec.getLsbD_not, hb]
      cases m.getLsbD b <;> simp
    · simp only [if_true, BitVec.getLsbD_or]
      cases m.getLsbD b <;> simp
  · cases h : m.getLsbD b
    · simp [BitVec.getLsbD_of_ge, Nat.le_of_not_lt hb]
    · rw [BitVec.getLsbD_of_ge _ _ (by omega)] at h
      cases h

/-- The next event and the rest of the schedule. -/
@[simp] theorem fetch_nil (h : s.schedule = []) : fetch s = none := by
  simp [fetch, h]

@[simp] theorem fetch_cons {e : Event} {es : List Event} (h : s.schedule = e :: es) :
    fetch s = some (e, s.setSchedule es) := by
  simp [fetch, h]

/-! The two parts of the base tick (42_pulse_timer.md R127, 43_reset_timer.md R144): the sticky bits each sets, and what
each leaves to the other. -/

/-- The error record after a sticky bit is set or not: only the sticky bits can differ. -/
theorem stickIf_eq (r : ErrRecord) (c : Bool) (n : Nat) : r.stickIf c n = { r with status := (r.stickIf c n).status } := by
  cases c <;> rfl

/-- The sticky bits after the Pulse Timer's part of a base tick. -/
theorem ptTick_sticky {n : Nat} (hn : n < 10) : (ptTick s).err.status.getLsbD n = true ↔
    s.err.status.getLsbD n = true ∨
      s.pulseFires ∧ (n = 4 ∧ s.irq.pulse.pend = true ∨ n = 9 ∧ s.irq.pulse.reg = false) := by
  simp only [ptTick, ptPrescaled, State.pulseFires]
  split
  · split
    · simp; omega
    · split
      · simp; omega
      · have h : 2 ^ s.params.ptShift s.pt.psel ≤ s.pt.div + 1 ∧ s.pt.cmp ≤ s.pt.cnt := by omega
        rw [BitVec.getLsbD_eq_getElem hn, BitVec.getLsbD_eq_getElem hn]
        simp [overrunBit, nocbBit, Src.bits, Irq.get, *]
        tauto
  · simp [*]

/-- The sticky bits after the Reset Timer's part of a base tick. -/
theorem rtTick_sticky {n : Nat} (hn : n < 10) : (rtTick s).err.status.getLsbD n = true ↔
    s.err.status.getLsbD n = true ∨
      s.resetFires ∧ (n = 5 ∧ s.irq.reset.pend = true ∨ n = 9 ∧ s.irq.reset.reg = false) := by
  simp only [rtTick, State.resetFires]
  split
  · split
    · simp; omega
    · split
      · have h : 2 ^ s.params.rtShift ≤ s.rt.div + 1 ∧ s.rt.cnt ≤ 1 := by omega
        rw [BitVec.getLsbD_eq_getElem hn, BitVec.getLsbD_eq_getElem hn]
        simp [overrunBit, nocbBit, Src.bits, Irq.get, *]
        tauto
      · simp; omega
  · simp [*]

/-- The Pulse Timer's part leaves what the Reset Timer's part reads. -/
theorem ptTick_keeps : (ptTick s).rt = s.rt ∧ (ptTick s).params = s.params ∧ (ptTick s).irq.reset = s.irq.reset ∧
    (ptTick s).schedule = s.schedule := by
  simp only [ptTick, ptPrescaled]
  repeat' split
  all_goals exact ⟨rfl, rfl, rfl, rfl⟩

/-- The Reset Timer's part leaves the Pulse Timer and its request. -/
theorem rtTick_keeps : (rtTick s).pt = s.pt ∧ (rtTick s).params = s.params ∧ (rtTick s).irq.pulse = s.irq.pulse ∧
    (rtTick s).schedule = s.schedule := by
  simp only [rtTick]
  repeat' split
  all_goals exact ⟨rfl, rfl, rfl, rfl⟩

end Sys2Proof.Machine
end

