-- ==== Sys2Proof/Laws/PerInstr.lean ====
section
/-! SUPPORT. Facts about every operation as syntax, one lemma per constructor. `LegalShape`: the word of an operation is
a legal transaction (30_encoding.md R71): 4 bytes wide, 4-byte aligned, with the `WR` bit of its format. -/

namespace Sys2Proof.Laws.LegalShape

/-- The word of `i` has `SZ` = 2, `OFF[1:0]` = 0 and the `WR` bit of its format (30_encoding.md R71). -/
def Statement (i : Instr) : Prop :=
  (encode i).sz = 2 ∧ (encode i).off.extractLsb' 0 2 = 0 ∧ (encode i).wr = BitVec.ofBool i.isWrite

theorem of_write {i : Instr} {off : BitVec 12} {v : Word} (h : encode i = .write off v) (hw : i.isWrite = true)
    (ha : off.extractLsb' 0 2 = 0) : Statement i := by
  simp [Statement, h, hw, Xact.write, ha]

theorem of_read {i : Instr} {off : BitVec 12} (h : encode i = .read off) (hw : i.isWrite = false)
    (ha : off.extractLsb' 0 2 = 0) : Statement i := by
  simp [Statement, h, hw, Xact.read, ha]

/-- An offset 4·`idx` above an aligned base is aligned (20_memory.md R51). -/
theorem aligned_at (base : BitVec 12) (hb : base.toNat % 4 = 0) {n : Nat} (idx : BitVec n) :
    (offsetAt base idx).extractLsb' 0 2 = 0 := by
  apply BitVec.eq_of_toNat_eq
  simp [offsetAt, BitVec.extractLsb'_toNat]
  omega

theorem ptConfigure (p : Word) : Statement (.ptConfigure p) := of_write rfl rfl (by decide)
theorem ptStart : Statement (.ptStart) := of_write rfl rfl (by decide)
theorem ptStop : Statement (.ptStop) := of_write rfl rfl (by decide)
theorem ptStatus : Statement (.ptStatus) := of_read rfl rfl (by decide)
theorem rtArm (d : Word) : Statement (.rtArm d) := of_write rfl rfl (by decide)
theorem rtDisarm : Statement (.rtDisarm) := of_write rfl rfl (by decide)
theorem rtStatus : Statement (.rtStatus) := of_read rfl rfl (by decide)
theorem vstEnable (b : Bool) : Statement (.vstEnable b) := of_write rfl rfl (by decide)
theorem vstSetDuty (v : Word) : Statement (.vstSetDuty v) := of_write rfl rfl (by decide)
theorem vstIsEnabled : Statement (.vstIsEnabled) := of_read rfl rfl (by decide)
theorem vstStatus : Statement (.vstStatus) := of_read rfl rfl (by decide)
theorem dtArm : Statement (.dtArm) := of_write rfl rfl (by decide)
theorem dtDisarm : Statement (.dtDisarm) := of_write rfl rfl (by decide)
theorem dtStatus : Statement (.dtStatus) := of_read rfl rfl (by decide)
theorem gpInit (desc : DescIdx) : Statement (.gpInit desc) := of_write rfl rfl (by decide)
theorem gpWrite (desc : DescIdx) (val : BitVec 16) : Statement (.gpWrite desc val) := of_write rfl rfl (by decide)
theorem gpWritePin (desc : DescIdx) (val : BitVec 16) : Statement (.gpWritePin desc val) := of_write rfl rfl (by decide)
theorem gpSetPullup (desc : DescIdx) (val : BitVec 16) : Statement (.gpSetPullup desc val) := of_write rfl rfl (by decide)
theorem gpChangeInt (desc : DescIdx) (val : BitVec 16) : Statement (.gpChangeInt desc val) := of_write rfl rfl (by decide)
theorem cbRegister (src : Src) (handle : Word) : Statement (.cbRegister src handle) := of_write rfl rfl (aligned_at _ rfl _)
theorem cbRead (src : Src) : Statement (.cbRead src) := of_read rfl rfl (aligned_at _ rfl _)
theorem irqPending : Statement (.irqPending) := of_read rfl rfl (by decide)
theorem irqTake (src : Src) : Statement (.irqTake src) := of_write rfl rfl (by decide)
theorem irqDone (src : Src) : Statement (.irqDone src) := of_write rfl rfl (by decide)
theorem cfgSet (k : CfgReg) (v : Word) : Statement (.cfgSet k v) := of_write rfl rfl (aligned_at _ rfl _)
theorem cfgGet (k : CfgReg) : Statement (.cfgGet k) := of_read rfl rfl (aligned_at _ rfl _)
theorem errStatus : Statement (.errStatus) := of_read rfl rfl (by decide)
theorem errInfo : Statement (.errInfo) := of_read rfl rfl (by decide)
theorem rawDir (loc : Loc) : Statement (.rawDir loc) := of_read rfl rfl (aligned_at _ rfl _)
theorem rawOut (loc : Loc) : Statement (.rawOut loc) := of_read rfl rfl (aligned_at _ rfl _)
theorem rawIn (loc : Loc) : Statement (.rawIn loc) := of_read rfl rfl (aligned_at _ rfl _)
theorem rawPue (loc : Loc) : Statement (.rawPue loc) := of_read rfl rfl (aligned_at _ rfl _)
theorem rawPcmsk (loc : Loc) : Statement (.rawPcmsk loc) := of_read rfl rfl (aligned_at _ rfl _)
theorem invSet (loc : Loc) (m : Word) : Statement (.invSet loc m) := of_write rfl rfl (aligned_at _ rfl _)
theorem invGet (loc : Loc) : Statement (.invGet loc) := of_read rfl rfl (aligned_at _ rfl _)
theorem gpRead (desc : DescIdx) : Statement (.gpRead desc) := of_read rfl rfl (aligned_at _ rfl _)
theorem vpResolve (desc : DescIdx) : Statement (.vpResolve desc) := of_read rfl rfl (aligned_at _ rfl _)
theorem vpPol (desc : DescIdx) : Statement (.vpPol desc) := of_read rfl rfl (aligned_at _ rfl _)

end Sys2Proof.Laws.LegalShape
end

