-- ==== Sys2Proof/Machine/Platform.lean ====
section
/-! DEFINITION. The host's side of the platform parameters (00_scope.md R4): where on the host's bus the register space
lies, at `BASE`, on which byte lanes a word shows (20_memory.md R52), and how many base ticks of frequency `F_T` a time
is. The block reads neither parameter (log 15), and no rule of the block depends on the byte order. -/

namespace Sys2Proof

/-- The bus address of a byte offset (20_memory.md R50, R51). -/
def Platform.address (f : Platform) (off : BitVec 12) : Nat := f.base + off.toNat

/-- The offset of a bus address in the register space `BASE` .. `BASE`+0xFFF, none outside it (20_memory.md R50). -/
def Platform.offset? (f : Platform) (addr : Nat) : Option (BitVec 12) :=
  if f.base ≤ addr ∧ addr < f.base + 0x1000 then some (BitVec.ofNat 12 (addr - f.base)) else none

/-- The transaction that a host's access at a bus address is (00_scope.md R6, 30_encoding.md R70); none if the address is
not the block's. -/
def Platform.select (f : Platform) (sz : BitVec 2) (wr : BitVec 1) (addr : Nat) (data : Word) : Option Xact :=
  (f.offset? addr).map (fun off => Xact.pack sz wr off data)

/-- What the block does with a host's access at a bus address; none if the address is not the block's. -/
def Platform.access (f : Platform) (sz : BitVec 2) (wr : BitVec 1) (addr : Nat) (data : Word) (s : Machine.State) :
    Option (Host.Outcome Machine.State Machine.Fault Machine.Refusal) :=
  (f.select sz wr addr data).map (fun x => Machine.bus x s)

/-- The four bytes of a register word, the byte at offset `off`+0 first: little-endian, `off`+0 carries bits [7:0] and
`off`+3 bits [31:24] (20_memory.md R52). -/
def byteLanes (w : Word) : Vector (BitVec 8) 4 :=
  #v[w.extractLsb' 0 8, w.extractLsb' 8 8, w.extractLsb' 16 8, w.extractLsb' 24 8]

/-- The register word of four bytes, the byte at offset `off`+0 first (20_memory.md R52). -/
def wordOfLanes (b : Vector (BitVec 8) 4) : Word := b[3] ++ b[2] ++ b[1] ++ b[0]

/-- The byte a register word at offset `off` shows at a bus address; none if the address is not one of its four
(20_memory.md R52). It says where the bytes of a whole word lie and is no access: one of a byte is refused (R53). -/
def Platform.lane? (f : Platform) (off : BitVec 12) (w : Word) (addr : Nat) : Option (BitVec 8) :=
  if f.address off ≤ addr then (byteLanes w)[addr - f.address off]? else none

/-- The transaction `MemWrite` of a platform that puts four bytes on the lanes of a bus address, the byte of the lowest
address first (20_memory.md R52, 30_encoding.md R70). -/
def Platform.writeLanes (f : Platform) (addr : Nat) (b : Vector (BitVec 8) 4) : Option Xact :=
  f.select 2 1 addr (wordOfLanes b)

/-- The read data of the last transaction as a platform shows it on byte lanes, the byte of the lowest address first
(20_memory.md R52, 30_encoding.md R79). -/
def readLanes (s : Machine.State) : Vector (BitVec 8) 4 := byteLanes s.answer.rdata

/-- `n` is the number of base ticks of `num`/`den` seconds, rounded to a nearest whole number: how the host comes from a
time, or the reciprocal of a rate, to the operand of PT.CONFIGURE or RT.ARM (00_scope.md R4 row `F_T`, 95_test_vectors.md
L1.7). Of a time halfway between two ticks both are ticks (log 15). -/
abbrev Platform.TicksFor (f : Platform) (num den n : Nat) : Prop :=
  2 * (f.fT * num) ≤ (2 * n + 1) * den ∧ 2 * n * den ≤ 2 * (f.fT * num) + den

end Sys2Proof
end

