-- ==== Sys2Proof/Laws/Platform.lean ====
section
/-! SUPPORT. What the host's side of the platform parameters can do: an access in the register space is the transaction
of its offset, whatever `BASE` is, an access outside it is none, byte `off`+k of a word is its bits [8k+7:8k], and a time of whole ticks is that many ticks. -/

namespace Sys2Proof

variable (f : Platform) (off : BitVec 12) (sz : BitVec 2) (wr : BitVec 1) (data : Word) (addr : Nat)

/-- The offset of a bus address, in full: the address is the block's exactly if it is `BASE` plus an offset. -/
theorem Platform.offset?_eq_some_iff : f.offset? addr = some off ↔ addr = f.address off := by
  have h := off.isLt
  simp only [offset?, address]
  constructor
  · split
    · next hr =>
      intro he
      have he := congrArg BitVec.toNat (Option.some.inj he)
      rw [BitVec.toNat_ofNat] at he
      omega
    · simp
  · rintro rfl
    rw [if_pos (by omega)]
    simp

@[simp] theorem Platform.offset?_address : f.offset? (f.address off) = some off :=
  (f.offset?_eq_some_iff off _).2 rfl

/-- Outside `BASE` .. `BASE`+0xFFF an address is not the block's (20_memory.md R50). -/
theorem Platform.offset?_eq_none_iff : f.offset? addr = none ↔ addr < f.base ∨ f.base + 0x1000 ≤ addr := by
  simp only [offset?]
  split <;> simp <;> omega

@[simp] theorem Platform.select_address : f.select sz wr (f.address off) data = some (Xact.pack sz wr off data) := by
  simp [select]

/-- An access at an offset does what the transaction of that offset does: `BASE` changes nothing
(93_implementation_defined.md U17). -/
@[simp] theorem Platform.access_address (s : Machine.State) :
    f.access sz wr (f.address off) data s = some (Machine.bus (Xact.pack sz wr off data) s) := by
  simp [access]

/-- Bit `i` of the byte at offset `off`+`k` is bit 8`k`+`i` of the word (20_memory.md R52). -/
theorem byteLanes_bit (w : Word) {k i : Nat} (hk : k < 4) (hi : i < 8) :
    (byteLanes w)[k].getLsbD i = w.getLsbD (8 * k + i) := by
  match k, hk with
  | 0, _ | 1, _ | 2, _ | 3, _ => simp [byteLanes, hi]

@[simp] theorem wordOfLanes_byteLanes (w : Word) : wordOfLanes (byteLanes w) = w := by
  apply BitVec.eq_of_getLsbD_eq
  intro i hi
  simp only [wordOfLanes, BitVec.getLsbD_append]
  repeat' split
  all_goals
    rw [byteLanes_bit _ (by omega) (by omega)]
    congr 1
    omega

@[simp] theorem byteLanes_wordOfLanes (b : Vector (BitVec 8) 4) : byteLanes (wordOfLanes b) = b := by
  ext k hk i hi
  simp only [← BitVec.getLsbD_eq_getElem]
  rw [byteLanes_bit _ hk hi]
  match k, hk with
  | 0, _ | 1, _ | 2, _ | 3, _ => simp [wordOfLanes]; grind

/-- The byte of a word at the bus address of its offset plus `k`, and no byte elsewhere. -/
theorem Platform.lane?_eq_some_iff (w : Word) (b : BitVec 8) :
    f.lane? off w addr = some b ↔ ∃ k, ∃ hk : k < 4, addr = f.address off + k ∧ (byteLanes w)[k] = b := by
  simp only [lane?]
  constructor
  · split
    · next h =>
      intro he
      obtain ⟨hk, he⟩ := Vector.getElem?_eq_some_iff.1 he
      exact ⟨_, hk, by omega, he⟩
    · simp
  · rintro ⟨k, hk, rfl, rfl⟩
    simp [hk]

/-- A write of four bytes is the write of the word they make, which then shows those bytes. -/
@[simp] theorem Platform.writeLanes_address (b : Vector (BitVec 8) 4) :
    f.writeLanes (f.address off) b = some (Xact.pack 2 1 off (wordOfLanes b)) := by
  simp [writeLanes]

/-- A time of exactly `n` ticks is `n` ticks and no other number. -/
theorem Platform.ticksFor_exact {num den n m : Nat} (hd : 0 < den) (h : f.fT * num = n * den) :
    f.TicksFor num den m ↔ m = n := by
  simp only [TicksFor, h]
  constructor
  · rintro ⟨h1, h2⟩
    have a : n * 2 < m * 2 + 2 := Nat.lt_of_mul_lt_mul_right (a := den) (by nlinarith)
    have b : m * 2 < n * 2 + 2 := Nat.lt_of_mul_lt_mul_right (a := den) (by nlinarith)
    omega
  · rintro rfl
    constructor <;> nlinarith

end Sys2Proof
end

