-- ==== Sys2Proof/Tests/Slice0.lean ====
section
/-! SUPPORT. The model's own tests: an ill-formed term for each check of WellFormed.lean and that the check refuses it;
one word for every operation, written out from 30_encoding.md R70, R71 and R80; one step of every operation with the
value an example of spec/ gives; and for every obligation with hypotheses a state and operands that meet them. -/

namespace Sys2Proof.Tests

open Sys2Proof.Machine

/-! ## Helpers -/

/-- The state after an operation. -/
def after (i : Instr) (s : State) : State :=
  match exec i s with
  | .next t => t
  | .fault _ => s
  | .refused _ => s

/-- The state after a step. -/
def next (s : State) : State :=
  match step s with
  | .next t => t
  | .fault _ => s
  | .refused _ => s

/-- The state in which the events `es` are still to come. -/
def facing (s : State) (es : List Event) : State := s.setSchedule es

/-- Read data `v` with response `OK`. -/
def got (v : Word) : Answer := ⟨.ok, v⟩

/-- The state after reset. -/
def idle : State := State.reset

/-- A pulse timer that runs with a period of 1200 base ticks, 5 of them elapsed. -/
def pulsing : PulseTimer :=
  { state := .running, valid := true, pselB := 0, cmpB := 1199, psel := 0, cmp := 1199, div := 0, cnt := 5 }

/-- Everything busy: the pulse timer runs, the one-shots are armed, the spindle turns, every callback is registered,
PULSE waits, RESET is in service, and location 1 has its LIMIT pins watched. -/
def busy : State :=
  { idle with
    pt := pulsing
    rt := { state := .armed, cnt := 37, div := 0, load := 80 }
    vst := { en := true, duty := 128, cnt := 127 }
    dt := { state := .armed, cnt := 27, load := 32 }
    ports := idle.ports.set 1 { dir := 0x01, out := 0x01, pue := 0x0E, pcmsk := 0x0E, inv := 0 }
    pads := idle.pads.set 1 0x0C
    irq := { pulse := ⟨true, false, true, 0x1000⟩, reset := ⟨false, true, true, 0x1004⟩,
             debounce := ⟨false, false, true, 0x1008⟩, change := ⟨false, false, true, 0x100C⟩ } }

/-- `busy` with another pulse timer. -/
def withPulse (t : PulseTimer) : State := busy.setPt t

/-- The registers of location 0 with latch `v`, all output. -/
def latched (v : Port) : State := idle.setPort 0 { dir := 0xFF, out := v, pue := 0, pcmsk := 0, inv := 0 }

/-! ## WellFormed.lean: each check refuses an ill-formed term -/

theorem test_params_default_ok : Params.default.check = true := by decide
theorem test_params_ptW_low : Params.check { Params.default with ptW := 2 } = false := by decide
theorem test_params_ptW_high : Params.check { Params.default with ptW := 17 } = false := by decide
theorem test_params_periodMin : Params.check { Params.default with ptPeriodMin := 0 } = false := by decide
theorem test_params_rtW : Params.check { Params.default with rtW := 0 } = false := by decide
theorem test_params_rtShift : Params.check { Params.default with rtShift := 11 } = false := by decide
theorem test_params_vstW : Params.check { Params.default with vstW := 17 } = false := by decide
theorem test_params_dtW : Params.check { Params.default with dtW := 0 } = false := by decide
theorem test_params_portW : Params.check { Params.default with portW := 17 } = false := by decide
theorem test_params_nloc : Params.check { Params.default with nloc := 9 } = false := by decide
theorem test_shifts_empty : Params.check { Params.default with ptShifts := [] } = false := by decide
theorem test_shifts_first : Params.check { Params.default with ptShifts := [1, 3] } = false := by decide
theorem test_shifts_increasing : Params.check { Params.default with ptShifts := [0, 3, 3] } = false := by decide
theorem test_shifts_gap : Params.check { Params.default with ptShifts := [0, 17] } = false := by decide

/-- The default parameters with another profile. -/
def withProfile (q : Profile) : Params := { Params.default with profile := q }

theorem test_profile_vstPin : (withProfile { Profile.vectors with vstPin := 0 }).check = false := by decide
theorem test_profile_vstPin_range : (withProfile { Profile.vectors with vstPin := 16 }).check = false := by decide
theorem test_profile_inv :
    (withProfile { Profile.vectors with inv := Vector.replicate 8 0x100 }).check = false := by decide
theorem test_profile_inv_absent :
    (withProfile { Profile.vectors with inv := Vector.replicate 8 1 }).check = false := by decide
theorem test_profile_pwmMax : (withProfile { Profile.vectors with pwmMax := 256 }).check = false := by decide
theorem test_profile_debounce : (withProfile { Profile.vectors with debounce := 65536 }).check = false := by decide

/-- The STEP group of 95_test_vectors.md, for ill-formed variants. -/
def step0 : Descriptor :=
  { valid := true, kind := .group, dir := .output, loc := 0, bitpos := 0, mask := 0x1C, pol := 0 }

theorem test_descriptor_ok : step0.Ok Params.default := by decide
theorem test_descriptor_loc : ¬ Descriptor.Ok Params.default { step0 with loc := 4 } := by decide
theorem test_descriptor_mask_zero : ¬ Descriptor.Ok Params.default { step0 with mask := 0 } := by decide
theorem test_descriptor_mask_wide : ¬ Descriptor.Ok Params.default { step0 with mask := 0x11C } := by decide
theorem test_descriptor_pol : ¬ Descriptor.Ok Params.default { step0 with pol := 0x01 } := by decide
theorem test_descriptor_pin_mask : ¬ Descriptor.Ok Params.default { step0 with kind := .pin } := by decide
theorem test_descriptor_group_bitpos : ¬ Descriptor.Ok Params.default { step0 with bitpos := 1 } := by decide
theorem test_descriptors_two_groups : ¬ Descriptor.Compatible step0 { step0 with mask := 0x30 } := by decide
theorem test_descriptors_two_dirs :
    ¬ Descriptor.Compatible step0 { step0 with kind := .pin, bitpos := 2, mask := 0x04, dir := .input } := by decide
theorem test_descriptors_two_pols :
    ¬ Descriptor.Compatible step0 { step0 with kind := .pin, bitpos := 2, mask := 0x04, pol := 0x04 } := by decide
theorem test_descriptors_member_ok :
    Descriptor.Compatible step0 { step0 with kind := .pin, bitpos := 2, mask := 0x04 } := by decide
theorem test_policy_ok : HostPolicy.Ok ⟨[.reset, .pulse, .debounce, .change], false⟩ := by decide
theorem test_policy_missing : ¬ HostPolicy.Ok ⟨[.reset, .pulse, .debounce], false⟩ := by decide
theorem test_policy_twice : ¬ HostPolicy.Ok ⟨[.reset, .pulse, .debounce, .change, .pulse], true⟩ := by decide
-- 20_memory.md R50, R51: with `BASE` = 0x40000000, PT.START (offset 0x004) is written at 0x40000004; the last byte of the
-- register space is at `BASE`+0xFFF, and the next one is not the block's.
theorem test_platform_select : (⟨0x40000000, 16000000⟩ : Platform).select 2 1 0x40000004 0 = some 0x500400000000 := rfl
theorem test_platform_edges : let f : Platform := ⟨0x40000000, 16000000⟩
    f.offset? 0x3FFFFFFF = none ∧ f.offset? 0x40000FFF = some 0xFFF ∧ f.offset? 0x40001000 = none := by decide
-- 20_memory.md R52: `off`+0 carries bits [7:0], `off`+3 bits [31:24]; CB.REGISTER PULSE (offset 0x060) by lanes.
theorem test_byteLanes : byteLanes 0x11223344 = #v[0x44, 0x33, 0x22, 0x11] ∧
    (⟨0x40000000, 16000000⟩ : Platform).lane? 0x060 0x11223344 0x40000063 = some 0x11 ∧
    (⟨0x40000000, 16000000⟩ : Platform).lane? 0x060 0x11223344 0x40000064 = none ∧
    (⟨0x40000000, 16000000⟩ : Platform).writeLanes 0x40000060 #v[0x44, 0x33, 0x22, 0x11] = some 0x506011223344 := by decide
-- 95_test_vectors.md L1.7: at 16 MHz a rate of 80·10000/60 Hz is 1200 ticks and a width of 5 µs is 80.
theorem test_platform_ticks : let f : Platform := ⟨0x40000000, 16000000⟩
    f.TicksFor 60 800000 1200 ∧ f.TicksFor 5 1000000 80 ∧ decide (f.TicksFor 5 1000000 81) = false := by decide
theorem test_instr_loc : (Instr.rawDir 4).WellFormed Params.default = false := by decide
theorem test_instr_window : (Instr.vpPol 16).WellFormed Params.default = false := by decide
theorem test_instr_resolved_unbound : (Instr.gpInit 7).Resolved Params.default = false := by decide
theorem test_instr_resolved_kind : (Instr.gpWrite 4 1).Resolved Params.default = false := by decide
theorem test_instr_resolved_dir : (Instr.gpWrite 2 1).Resolved Params.default = false := by decide
/-- Parameters out of range are refused before a run (93_implementation_defined.md U9). -/
theorem test_boot_refuses : boot { Params.default with nloc := 9 } (Vector.replicate 8 0) [] = .refused .badParameters := rfl
theorem test_boot_starts : boot Params.default (Vector.replicate 8 0) [] = .next State.reset := rfl

/-! ## Decode.lean: one word for every operation, from the fields of R70, R71 and R80 (SZ = 2) -/

theorem test_decode_ptConfigure : decode 0x5000000004B0 = .ok (.ptConfigure 1200) := rfl  -- R80's example
theorem test_decode_ptStart : decode 0x500400000000 = .ok (.ptStart) := rfl
theorem test_decode_ptStop : decode 0x500800000000 = .ok (.ptStop) := rfl
theorem test_decode_ptStatus : decode 0x400C00000000 = .ok (.ptStatus) := rfl
theorem test_decode_rtArm : decode 0x501000000050 = .ok (.rtArm 80) := rfl
theorem test_decode_rtDisarm : decode 0x501400000000 = .ok (.rtDisarm) := rfl
theorem test_decode_rtStatus : decode 0x401800000000 = .ok (.rtStatus) := rfl
theorem test_decode_vstEnable : decode 0x502000000001 = .ok (.vstEnable true) := rfl
theorem test_decode_vstSetDuty : decode 0x50240000012C = .ok (.vstSetDuty 300) := rfl
theorem test_decode_vstIsEnabled : decode 0x402800000000 = .ok (.vstIsEnabled) := rfl
theorem test_decode_vstStatus : decode 0x402C00000000 = .ok (.vstStatus) := rfl
theorem test_decode_dtArm : decode 0x503000000000 = .ok (.dtArm) := rfl
theorem test_decode_dtDisarm : decode 0x503400000000 = .ok (.dtDisarm) := rfl
theorem test_decode_dtStatus : decode 0x403800000000 = .ok (.dtStatus) := rfl
theorem test_decode_gpInit : decode 0x504005000000 = .ok (.gpInit 5) := rfl
theorem test_decode_gpWrite : decode 0x5044010000FF = .ok (.gpWrite 1 0xFF) := rfl
theorem test_decode_gpWritePin : decode 0x504806000001 = .ok (.gpWritePin 6 1) := rfl
theorem test_decode_gpSetPullup : decode 0x504C02000001 = .ok (.gpSetPullup 2 1) := rfl
theorem test_decode_gpChangeInt : decode 0x505002000001 = .ok (.gpChangeInt 2 1) := rfl
theorem test_decode_cbRegister : decode 0x506000001000 = .ok (.cbRegister .pulse 0x1000) := rfl  -- R180's example
theorem test_decode_cbRead : decode 0x406C00000000 = .ok (.cbRead .change) := rfl
theorem test_decode_irqPending : decode 0x407000000000 = .ok (.irqPending) := rfl
theorem test_decode_irqTake : decode 0x507400000000 = .ok (.irqTake .pulse) := rfl  -- R183's example
theorem test_decode_irqDone : decode 0x507800000001 = .ok (.irqDone .reset) := rfl  -- R184's example
theorem test_decode_cfgSet : decode 0x5084000003E8 = .ok (.cfgSet .pwmMax 1000) := rfl
theorem test_decode_cfgGet : decode 0x408C00000000 = .ok (.cfgGet .debounce) := rfl
theorem test_decode_errStatus : decode 0x40C000000000 = .ok (.errStatus) := rfl
theorem test_decode_errInfo : decode 0x40C400000000 = .ok (.errInfo) := rfl
theorem test_decode_rawDir : decode 0x410400000000 = .ok (.rawDir 1) := rfl
theorem test_decode_rawOut : decode 0x412800000000 = .ok (.rawOut 2) := rfl
theorem test_decode_rawIn : decode 0x414C00000000 = .ok (.rawIn 3) := rfl
theorem test_decode_rawPue : decode 0x417000000000 = .ok (.rawPue 4) := rfl
theorem test_decode_rawPcmsk : decode 0x419C00000000 = .ok (.rawPcmsk 7) := rfl
theorem test_decode_invSet : decode 0x51A800000020 = .ok (.invSet 2 0x20) := rfl
theorem test_decode_invGet : decode 0x41B400000000 = .ok (.invGet 5) := rfl
theorem test_decode_gpRead : decode 0x440800000000 = .ok (.gpRead 2) := rfl  -- R80's example
theorem test_decode_vpResolve : decode 0x4BFC00000000 = .ok (.vpResolve 255) := rfl
theorem test_decode_vpPol : decode 0x4C1400000000 = .ok (.vpPol 5) := rfl

/-- Ignored bits are ignored (R74): VST.ENABLE with every bit set but bit 0. -/
theorem test_decode_ignored : decode 0x5020FFFFFFFE = .ok (.vstEnable false) := rfl
/-- R75: the other sizes, a misaligned offset, an unassigned offset, a read of a write-only register. -/
theorem test_decode_size : decode 0x100000000000 = .error .badSize := rfl
theorem test_decode_misaligned : decode 0x500100000000 = .error .misaligned := rfl
theorem test_decode_unassigned : decode 0x501C00000000 = .error .unmapped := rfl
theorem test_decode_wrong_kind : decode 0x400000000000 = .error .unmapped := rfl

/-! ## One step of every operation, with the values of the examples in spec/ -/

-- R123's example.
theorem test_ptConfigure : (after (.ptConfigure 1200) idle).pt =
    { idle.pt with state := .armed, valid := true, pselB := 0, cmpB := 1199 } := by decide
-- R123, R205: a zero period, and the record of the example of R190.
theorem test_ptConfigure_zero : (after (.ptConfigure 0) idle).err = { status := 1, info := 0x23000 } := by decide
-- R124's example.
theorem test_ptStart : (after .ptStart (after (.ptConfigure 1200) idle)).pt = { pulsing with cnt := 0 } := by decide
-- R124: no period was ever configured.
theorem test_ptStart_unconfigured : (after .ptStart idle).answer = ⟨.err .cfgErr, 0⟩ := by decide
-- R125's example: running with a pulse pending.
theorem test_ptStop : (after .ptStop busy).pt = { pulsing with state := .idle, cnt := 0 } ∧
    (after .ptStop busy).irq.pulse.pend = false := by decide
-- R124's and R125's status words.
theorem test_ptStatus : (after .ptStatus busy).answer = got 0x04AF000E := by decide
theorem test_ptStatus_stopped : (after .ptStatus (after .ptStop busy)).answer = got 0x04AF0008 := by decide
-- R141's example, and its clamp.
theorem test_rtArm : (after (.rtArm 80) idle).rt = { state := .armed, cnt := 80, div := 0, load := 80 } := by decide
theorem test_rtArm_clamp : (after (.rtArm 70000) idle).rt.load = 65535 := by decide
-- R142's example.
theorem test_rtDisarm : (after .rtDisarm busy).rt = { state := .idle, cnt := 0, div := 0, load := 80 } := by decide
-- R141's and R143's status words.
theorem test_rtStatus : (after .rtStatus busy).answer = got 0x00500001 := by decide
theorem test_rtStatus_idle : (after .rtStatus (after .rtDisarm busy)).answer = got 0x00500000 := by decide
-- R156's example: the duty survives a disable.
theorem test_vstEnable : (after (.vstEnable false) busy).vst = { en := false, duty := 128, cnt := 0 } := by decide
-- R157's example: bounds 5 and 250.
theorem test_vstSetDuty : [3, 300, 128, 0xFFFFFFFF].map (fun v => (after (.vstSetDuty v)
    (idle.setCfg { idle.cfg with pwmOff := 5, pwmMax := 250 })).vst.duty) = [5, 250, 128, 250] := by decide
theorem test_vstIsEnabled : (after .vstIsEnabled busy).answer = got 0x00000001 := by decide
-- R156's status words.
theorem test_vstStatus : (after .vstStatus busy).answer = got 0x00030080 := by decide
theorem test_vstStatus_off : (after .vstStatus (after (.vstEnable false) busy)).answer = got 0x00000080 := by decide
-- R171's example: a window of 32, and a second arm that leaves 27.
theorem test_dtArm : (after .dtArm idle).dt = { state := .armed, cnt := 32, load := 32 } := by decide
theorem test_dtArm_again : (after .dtArm busy).dt.cnt = 27 := by decide
-- R172's example.
theorem test_dtDisarm : (after .dtDisarm busy).dt = { state := .idle, cnt := 0, load := 32 } := by decide
theorem test_dtStatus : (after .dtStatus busy).answer = got 0x00200001 := by decide
-- R102's example.
theorem test_gpInit : ((after (.gpInit 0) idle).port 0).dir = 0x1C := by decide +kernel
theorem test_gpInit_unbound : (after (.gpInit 7) idle).answer = ⟨.err .badDesc, 0⟩ := by decide
-- R103's example.
theorem test_gpWrite : ((after (.gpWrite 0 0xFF) (latched 0xA3)).port 0).out = 0xBF := by decide +kernel
-- R187's example: with INV[0] = 0x04.
theorem test_gpWrite_inverted : ((after (.gpWrite 0 0x14) (after (.invSet 0 0x04) idle)).port 0).out &&& 0x1C = 0x10 := by
  decide +kernel
-- R104's example.
theorem test_gpWritePin : ((after (.gpWritePin 6 1) idle).port 1).out = 0x01 := by decide +kernel
theorem test_gpWritePin_group : (after (.gpWritePin 0 1) idle).answer = ⟨.err .badDesc, 0⟩ := by decide
-- R105's examples.
theorem test_gpRead : (after (.gpRead 0) (latched 0xBF)).answer = got 0x0000001C := by decide +kernel
theorem test_gpRead_pin : (after (.gpRead 5) idle).answer = got 0x00000001 := by decide +kernel
-- R106's examples.
theorem test_gpSetPullup : ((after (.gpSetPullup 2 1) idle).port 1).pue = 0x0E := by decide +kernel
theorem test_gpSetPullup_output : ((after (.gpSetPullup 0 1) idle).port 0).pue = 0 ∧
    (after (.gpSetPullup 0 1) idle).answer = got 0 := by decide +kernel
-- R107's example.
theorem test_gpChangeInt : ((after (.gpChangeInt 2 1) idle).port 1).pcmsk = 0x0E := by decide +kernel
-- R180's and R181's examples.
theorem test_cbRegister : (after (.cbRegister .pulse 0x1000) idle).irq.pulse = ⟨false, false, true, 0x1000⟩ := by decide
theorem test_cbRegister_twice : (after (.cbRegister .pulse 0x2000) busy).answer = ⟨.err .stateErr, 0⟩ := by decide
theorem test_cbRead : (after (.cbRead .pulse) busy).answer = got 0x00001000 := by decide

/-- R182's example: all four sources registered and a pulse fire not yet taken. -/
def waiting : State := busy.setIrq { busy.irq with reset := ⟨false, false, true, 0⟩ }

theorem test_irqPending : (after .irqPending waiting).answer = got 0x010F0001 := by decide
theorem test_irqTake : (after .irqPending (after (.irqTake .pulse) waiting)).answer = got 0x000F0100 := by decide
theorem test_irqTake_low : (after (.irqTake .change) waiting).answer = ⟨.err .stateErr, 0⟩ := by decide
theorem test_irqDone : (after (.irqDone .reset) busy).irq.reset.inserv = false := by decide
theorem test_irqDone_early : (after (.irqDone .pulse) busy).answer = ⟨.err .stateErr, 0⟩ := by decide
-- R185's and R186's examples.
theorem test_cfgSet : (after (.cfgSet .pwmMax 1000) idle).cfg.pwmMax = 255 := by decide
theorem test_cfgGet : (after (.cfgGet .pwmMax) (after (.cfgSet .pwmMax 1000) idle)).answer = got 0x000000FF := by decide
-- R189's and R190's examples.
theorem test_errStatus : (after .errStatus (after (.ptConfigure 0) idle)).answer = got 0x00000001 := by decide
theorem test_errInfo : (after .errInfo (after (.ptConfigure 0) idle)).answer = got 0x00023000 := by decide
-- R191 to R195's examples.
theorem test_rawDir : (after (.rawDir 0) (after (.gpInit 0) idle)).answer = got 0x0000001C := by decide +kernel
theorem test_rawOut : (after (.rawOut 0) (after (.gpWrite 0 0x14) idle)).answer = got 0x00000014 := by decide +kernel
theorem test_rawIn : (after (.rawIn 1) busy).answer = got 0x0000000D := by decide +kernel
theorem test_rawPue : (after (.rawPue 1) (after (.gpSetPullup 2 1) idle)).answer = got 0x0000000E := by decide +kernel
theorem test_rawPcmsk : (after (.rawPcmsk 1) (after (.gpChangeInt 2 1) idle)).answer = got 0x0000000E := by decide +kernel
theorem test_rawPcmsk_absent : (after (.rawPcmsk 4) idle).answer = ⟨.err .busErr, 0⟩ := by decide
-- R187's and R188's examples.
theorem test_invSet : ((after (.invSet 0 0xFFFFFF04) idle).port 0).inv = 0x04 := by decide +kernel
theorem test_invGet : (after (.invGet 0) (after (.invSet 0 0x04) idle)).answer = got 0x00000004 := by decide +kernel
-- R90's and R91's examples.
theorem test_vpResolve : (after (.vpResolve 0) idle).answer = got 0xE000001C := by decide
theorem test_vpResolve_unbound : (after (.vpResolve 7) idle).answer = got 0 := by decide
theorem test_vpPol : (after (.vpPol 5) idle).answer = got 0x00000020 := by decide
-- The ticks: R127 (the 1200th tick fires), R144, R160 (the wrap), R174.
theorem test_tickT : (tickT (withPulse { pulsing with cnt := 1198 })).pt.cnt = 1199 ∧
    (tickT (withPulse { pulsing with cnt := 1199 })).pt.cnt = 0 := by decide
theorem test_tickV : (tickV (busy.setVst { busy.vst with cnt := 255 })).vst.cnt = 0 := by decide
theorem test_tickD : (tickD busy).dt.cnt = 26 := by decide
-- R215: a second fire before the first is taken is an overrun (bit 4).
theorem test_overrun : (tickT (withPulse { pulsing with cnt := 1199 })).err.status = 0x010 := by decide
-- R109, R108: a rising LIMIT pin fires CHANGE; a pin that is not watched does not.
theorem test_pad : (padEvent 1 0x0E busy).irq.change.pend = true := by decide +kernel
theorem test_pad_unwatched : (padEvent 1 0x8C busy).irq.change.pend = false := by decide +kernel
-- R147: a width of 1200 ticks is not below the period of 1200 (bit 8), 1199 is.
theorem test_width : ((after (.rtArm 1200) busy).err.status, (after (.rtArm 1199) busy).err.status) = (0x100, 0) := by decide
-- R122 with the defaults: 65 536 is exact, 65 537 takes the next prescaler (8 · 8192 = 65 536).
theorem test_ptDerive : ptDerive Params.default 65536 = (0, 65535) ∧ ptDerive Params.default 65537 = (1, 8191) := by decide
-- R17, R161: the spindle pin shows the PWM output while the spindle is on.
theorem test_padout : (busy.padout 3, (busy.setVst { busy.vst with cnt := 128 }).padout 3) = (0x08, 0x00) := by decide +kernel
-- R230: the reset event keeps the pads.
theorem test_reset : (resetEvent busy).pads = busy.pads ∧ (resetEvent busy).pt = idle.pt := by decide
-- 93_implementation_defined.md U8: the strict step stops at an overrun.
theorem test_strict : strictStep ((withPulse { pulsing with cnt := 1199 }).setSchedule [.tickT]) = .fault (.overrun .pulse) :=
  rfl

/-! ## For every obligation with hypotheses: a state and operands that meet them, clause by clause -/

/-- The default parameters are in range. -/
theorem default_ok : Params.default.Ok := ⟨by decide, by decide, by decide⟩

/-- `busy` with other timers. -/
def busyWith (t : PulseTimer) (r : ResetTimer) (v : SpindleTimer) (d : DebounceTimer) : State :=
  { busy with pt := t, rt := r, vst := v, dt := d }

theorem busy_cfg : busy.cfg.Inv Params.default := by decide
theorem busy_ports : ∀ loc : Loc, (busy.port loc).Fits Params.default ∧ portFits Params.default (busy.pad loc) := by
  decide +kernel
theorem busy_absent : ∀ loc : Loc, Params.default.nloc ≤ loc.toNat → busy.port loc = PortRegs.none ∧ busy.pad loc = 0 := by
  decide +kernel
theorem busy_irq (src : Src) : (busy.irq.get src).Inv := by cases src <;> decide

/-- `busy` keeps the invariant with any timers that do. -/
theorem busyWith_inv {t : PulseTimer} {r : ResetTimer} {v : SpindleTimer} {d : DebounceTimer} (ht : t.Inv Params.default)
    (hr : r.Inv Params.default) (hv : v.Inv Params.default) (hd : d.Inv Params.default) : (busyWith t r v d).Inv :=
  ⟨default_ok, ht, hr, hv, hd, busy_cfg, busy_ports, busy_absent, busy_irq⟩

theorem busy_inv : busy.Inv := busyWith_inv (by decide) (by decide) (by decide) (by decide)

/-- `busy` with every timer stopped and a pulse period programmed. -/
def quiet : State := busyWith { pulsing with state := .idle, cnt := 0 } { state := .idle, cnt := 0, div := 0, load := 80 }
  { en := false, duty := 128, cnt := 0 } { state := .idle, cnt := 0, load := 32 }

theorem quiet_inv : quiet.Inv := busyWith_inv (by decide) (by decide) (by decide) (by decide)

/-- An armed pulse timer. -/
def armed : State := withPulse { pulsing with state := .armed, cnt := 0 }

/-- A state with another reset prescaler, for the prescaled ticks of the reset timer. -/
def slow (r : ResetTimer) : State := { idle with params := { Params.default with rtShift := 3 }, rt := r }

/-- Some events that leave the timers' programs alone: two ticks of each clock, a pad event and a read. -/
def others : List Event := [.tickT, .tickV, .pad 1 0x02, .tickD, .bus 0x407000000000, .tickT, .tickV, .tickD]

theorem others_instr : ∀ e ∈ others, e ≠ .reset ∧ (e.instr? = none ∨ e.instr? = some .irqPending) := by decide

/-- None of `others` issues an operation but IRQ.PENDING. -/
theorem others_not {e : Event} (he : e ∈ others) {i : Instr} (hi : i ≠ .irqPending) : e.instr? ≠ some i := by
  rcases (others_instr e he).2 with h | h <;> rw [h] <;> intro hc
  · cases hc
  · exact hi (Option.some.inj hc).symm

theorem witness_StepRunsDecodedTransaction :
    (facing idle [.bus 0x5000000004B0]).schedule = .bus 0x5000000004B0 :: [] ∧
    decode 0x5000000004B0 = .ok (.ptConfigure 1200) ∧
    decodeTableWord 48 0x5000000004B0 = some (.ptConfigure 1200) := ⟨rfl, rfl, rfl⟩

theorem witness_EncodeRecoversHeader : decode 0x4BFC00000000 = .ok (.vpResolve 255) := rfl

/-- One pair of words for each way bits are ignored. -/
theorem witness_IgnoredBitsHaveNoEffect :
    (Xact.header 0x400C00000000 = Xact.header 0x400CFFFFFFFF ∧ Xact.wr 0x400C00000000 = 0) ∧
    (Xact.header 0x500400000000 = Xact.header 0x5004FFFFFFFF ∧
      Xact.off 0x500400000000 ∈ [(0x004 : BitVec 12), 0x008, 0x014, 0x030, 0x034]) ∧
    (Xact.header 0x502000000001 = Xact.header 0x5020FFFFFFFF ∧ Xact.off 0x502000000001 = 0x020 ∧
      (Xact.data 0x502000000001).getLsbD 0 = (Xact.data 0x5020FFFFFFFF).getLsbD 0) ∧
    (Xact.header 0x507400000001 = Xact.header 0x5074FFFFFFFD ∧ Xact.off 0x507400000001 ∈ [(0x074 : BitVec 12), 0x078] ∧
      (Xact.data 0x507400000001).extractLsb' 0 2 = (Xact.data 0x5074FFFFFFFD).extractLsb' 0 2) ∧
    (Xact.header 0x5044010000FF = Xact.header 0x504401FF00FF ∧
      Xact.off 0x5044010000FF ∈ [(0x040 : BitVec 12), 0x044, 0x048, 0x04C, 0x050] ∧
      (Xact.data 0x5044010000FF).extractLsb' 24 8 = (Xact.data 0x504401FF00FF).extractLsb' 24 8 ∧
      (Xact.data 0x5044010000FF).extractLsb' 0 16 = (Xact.data 0x504401FF00FF).extractLsb' 0 16) := by decide

/-- The four causes, and the last location and descriptor that exist beside the first that do not. -/
theorem witness_BusErrorExactlyWhenIllegal :
    (facing idle [.bus 0x100000000000]).schedule = .bus 0x100000000000 :: [] ∧
    Xact.sz 0x100000000000 ≠ 2 ∧ (Xact.off 0x500100000000).extractLsb' 0 2 ≠ 0 ∧
    (∀ r ∈ opMap, 0x501C00000000 &&& r.mask ≠ r.pattern) ∧
    (decode 0x411000000000 = .ok (.rawDir 4) ∧ (Instr.rawDir 4).WellFormed idle.params = false) ∧
    (decode 0x484000000000 = .ok (.vpResolve 16) ∧ (Instr.vpResolve 16).WellFormed idle.params = false) ∧
    (Instr.rawDir 3).WellFormed idle.params = true ∧ (Instr.vpResolve 15).WellFormed idle.params = true :=
  ⟨rfl, by decide, by decide, by decide +kernel, ⟨rfl, rfl⟩, ⟨rfl, rfl⟩, rfl, rfl⟩

/-- One transaction for each error. -/
theorem witness_FailureChangesOnlyErrorRecord :
    (∃ t, step (facing idle [.bus 0x500000000000]) = .next t ∧ t.answer.resp = .err .cfgErr) ∧
    (∃ t, step (facing idle [.bus 0x507400000000]) = .next t ∧ t.answer.resp = .err .stateErr) ∧
    (∃ t, step (facing idle [.bus 0x504007000000]) = .next t ∧ t.answer.resp = .err .badDesc) ∧
    (∃ t, step (facing idle [.bus 0x501C00000000]) = .next t ∧ t.answer.resp = .err .busErr) :=
  ⟨⟨_, rfl, rfl⟩, ⟨_, rfl, rfl⟩, ⟨_, rfl, rfl⟩, ⟨_, rfl, rfl⟩⟩

theorem witness_ErrorCausesComplete : busy.Inv := busy_inv

theorem witness_StepKeepsInvariant : ∃ t, busy.Inv ∧ step busy = .next t := ⟨_, busy_inv, rfl⟩

theorem witness_ResetEstablishesInvariant : Params.default.Ok ∧
    ∀ l : Fin 8, portFits Params.default (busy.pads.get l) ∧ (Params.default.nloc ≤ l.val → busy.pads.get l = 0) :=
  ⟨default_ok, by decide +kernel⟩

theorem witness_DescriptorTableImmutable : (∃ t, step (facing busy [.tickT]) = .next t) ∧
    (0x800 ≤ (0x800 : BitVec 12).toNat ∧ 0x800 ≤ (0xFFC : BitVec 12).toNat) ∧
    (facing busy [.bus (Xact.pack 2 1 0x800 1)]).schedule = .bus (Xact.pack 2 1 0x800 1) :: [] :=
  ⟨⟨_, rfl⟩, by decide, rfl⟩

theorem witness_ResetEventValues : (facing busy [.reset]).schedule = .reset :: [] := rfl

theorem witness_StickyBitsOnlyClearedByReset :
    ∃ s t : State, step s = .next t ∧ s.schedule.head? ≠ some .reset ∧ s.err.status.getLsbD 0 = true ∧
      s.err.status.getLsbD 9 = true :=
  ⟨facing (busy.setErr ⟨0x201, 0⟩) [.tickT], _, rfl, by decide, rfl, rfl⟩

/-- Each of the three requests becomes pending. -/
theorem witness_CancelledRequestStaysCancelled :
    (∃ s t : State, step s = .next t ∧ s.irq.pulse.pend = false ∧ t.irq.pulse.pend = true) ∧
    (∃ s t : State, step s = .next t ∧ s.irq.reset.pend = false ∧ t.irq.reset.pend = true) ∧
    (∃ s t : State, step s = .next t ∧ s.irq.debounce.pend = false ∧ t.irq.debounce.pend = true) :=
  ⟨⟨facing ((withPulse { pulsing with cnt := 1199 }).setIrq idle.irq) [.tickT], _, rfl, rfl, by decide⟩,
   ⟨facing (busy.setRt { busy.rt with cnt := 1 }) [.tickT], _, rfl, rfl, by decide⟩,
   ⟨facing (busy.setDt { busy.dt with cnt := 1 }) [.tickD], _, rfl, rfl, by decide⟩⟩

/-- Each piece of state changes in some step. -/
theorem witness_StateIsOwned :
    (∃ t, step (facing busy [.tickT]) = .next t ∧ t.pt ≠ busy.pt ∧ t.rt ≠ busy.rt) ∧
    (∃ t, step (facing busy [.tickV]) = .next t ∧ t.vst ≠ busy.vst) ∧
    (∃ t, step (facing busy [.tickD]) = .next t ∧ t.dt ≠ busy.dt) ∧
    (∃ t, step (facing busy [.pad 1 0]) = .next t ∧ t.pads ≠ busy.pads) ∧
    (∃ t, step (facing busy [.bus 0x508400000003]) = .next t ∧ t.cfg ≠ busy.cfg) ∧
    (∃ t, step (facing busy [.bus 0x51A000000001]) = .next t ∧ (t.port 0).inv ≠ (busy.port 0).inv) ∧
    (∃ t, step (facing busy [.bus 0x504000000000]) = .next t ∧ (t.port 0).dir ≠ (busy.port 0).dir) ∧
    (∃ t, step (facing busy [.bus 0x504400000014]) = .next t ∧ (t.port 0).out ≠ (busy.port 0).out) ∧
    (∃ t, step (facing busy [.bus 0x504C05000001]) = .next t ∧ (t.port 2).pue ≠ (busy.port 2).pue) ∧
    (∃ t, step (facing busy [.bus 0x505003000001]) = .next t ∧ (t.port 2).pcmsk ≠ (busy.port 2).pcmsk) ∧
    (∃ t, step (facing idle [.bus 0x506000001000]) = .next t ∧ (t.irq.get .pulse).reg ≠ (idle.irq.get .pulse).reg) :=
  ⟨⟨_, rfl, by decide, by decide⟩, ⟨_, rfl, by decide⟩, ⟨_, rfl, by decide⟩, ⟨_, rfl, by decide +kernel⟩,
   ⟨_, rfl, by decide +kernel⟩, ⟨_, rfl, by decide +kernel⟩, ⟨_, rfl, by decide +kernel⟩, ⟨_, rfl, by decide +kernel⟩,
   ⟨_, rfl, by decide +kernel⟩, ⟨_, rfl, by decide +kernel⟩, ⟨_, rfl, by decide +kernel⟩⟩

theorem witness_FireRecordsRequest : Src.reset ≠ Src.pulse ∧ 9 < 10 := by decide

/-- The longest period of the first prescaler, the shortest of the second, the longest of all, and one past it. -/
theorem witness_PulsePeriodDerivation : Params.default.Ok ∧ ptDerive Params.default 1 = (0, 0) ∧
    ptDerive Params.default 65536 = (0, 65535) ∧ ptDerive Params.default 65537 = (1, 8191) ∧
    (ptDerive Params.default 67108864 = (4, 65535) ∧ 67108864 / 2 ^ Params.default.ptShift 4 ≤ 2 ^ Params.default.ptW) ∧
    (ptDerive Params.default 67109888 = (4, 65535) ∧ 2 ^ Params.default.ptW < 67109888 / 2 ^ Params.default.ptShift 4) :=
  ⟨default_ok, by decide⟩

theorem witness_PulseConfigure : armed.pt.state = .armed ∧ (idle.pt.state ≠ .armed ∧ (0 : Word) = 0) ∧
    (idle.pt.state = .idle ∧ (1 : Word) ≠ 0) ∧ (busy.pt.state = .running ∧ (0xFFFFFFFF : Word) ≠ 0) := by decide

theorem witness_PulseStart : busy.pt.state = .running ∧ (idle.pt.state ≠ .running ∧ idle.pt.valid = false) ∧
    (armed.pt.state ≠ .running ∧ armed.pt.valid = true) := by decide

/-- A state in whose next base tick both timers fire, with both requests still pending and no callback registered. -/
def colliding : State :=
  let q : IrqBits := { pend := true, inserv := false, reg := false, cbvec := 0 }
  { slow { state := .armed, cnt := 1, div := 7, load := 9 } with
    pt := { pulsing with cnt := 1199 }, irq := { idle.irq with pulse := q, reset := q } }

-- R127, R144, R208: that tick sets both overrun bits and NOCB, and no other.
theorem test_colliding : (tickT colliding).err.status = 0x230 := by decide

/-- The error bits of a base tick: the three it can set, one it cannot, and none when nothing fires. -/
theorem witness_tickSets : (colliding.rt.state = .armed ∧ 1 ≤ colliding.rt.cnt) ∧ colliding.tickSets 4 ∧
    colliding.tickSets 5 ∧ colliding.tickSets 9 ∧ decide (colliding.tickSets 8) = false ∧
    decide (idle.tickSets 4 ∨ idle.tickSets 5 ∨ idle.tickSets 9) = false := by decide

/-- A tick that changes nothing, an unprescaled tick, a prescaled tick that counts and one that matches. -/
theorem witness_PulseTick : (facing idle [.tickT]).schedule = .tickT :: [] ∧ idle.pt.state ≠ .running ∧
    (∃ s : State, s.pt.state = .running ∧ s.pt.div + 1 < 2 ^ s.params.ptShift s.pt.psel) ∧
    (∃ s : State, s.pt.state = .running ∧ 2 ^ s.params.ptShift s.pt.psel ≤ s.pt.div + 1 ∧ s.pt.cnt < s.pt.cmp) ∧
    (∃ s : State, s.pt.state = .running ∧ 2 ^ s.params.ptShift s.pt.psel ≤ s.pt.div + 1 ∧ s.pt.cmp ≤ s.pt.cnt ∧
      s.irq.pulse.reg = false) :=
  ⟨rfl, by decide, ⟨withPulse { pulsing with psel := 1, div := 6 }, by decide⟩,
   ⟨withPulse { pulsing with psel := 1, div := 7, cnt := 1198 }, by decide⟩,
   ⟨(withPulse { pulsing with psel := 1, div := 7, cnt := 1199 }).setIrq idle.irq, by decide⟩⟩

theorem witness_PulseReprogramGlitchFree : busy.Inv ∧ busy.pt.state = .running ∧ (500 : Word) ≠ 0 ∧
    (∃ t, exec (.ptConfigure 500) busy = .next t) ∧
    ∀ e ∈ others, e ≠ .reset ∧ e.instr? ≠ some .ptStop ∧ ∀ q, e.instr? ≠ some (.ptConfigure q) :=
  ⟨busy_inv, rfl, by decide, ⟨_, rfl⟩,
   fun e he => ⟨(others_instr e he).1, others_not he (by decide), fun q => others_not he (by simp)⟩⟩

/-- Events between a stop and a start: ticks, a pad event, a second stop and an arm of the Reset Timer. -/
def between : List Event := others ++ [.bus 0x500800000000, .tickT, .bus 0x501000000050]

theorem witness_PulseStopStartExactPeriod : busy.Inv ∧ busy.pt.valid = true ∧ (∃ t, exec .ptStop busy = .next t) ∧
    (∀ e ∈ between, e ≠ .reset ∧ e.instr? ≠ some .ptStart ∧ ∀ q, e.instr? ≠ some (.ptConfigure q)) ∧
    ∀ e ∈ others, e ≠ .reset ∧ e.instr? ≠ some .ptStop ∧ ∀ q, e.instr? ≠ some (.ptConfigure q) := by
  refine ⟨busy_inv, rfl, ⟨_, rfl⟩, fun e he => ?_,
    fun e he => ⟨(others_instr e he).1, others_not he (by decide), fun q => others_not he (by simp)⟩⟩
  rcases List.mem_append.1 he with he | he
  · exact ⟨(others_instr e he).1, others_not he (by decide), fun q => others_not he (by simp)⟩
  · have h : ∀ e ∈ [Event.bus 0x500800000000, .tickT, .bus 0x501000000050],
        e ≠ .reset ∧ (e.instr? = none ∨ e.instr? = some .ptStop ∨ e.instr? = some (.rtArm 80)) := by decide
    obtain ⟨h1, h2⟩ := h e he
    refine ⟨h1, ?_, fun q => ?_⟩ <;> rcases h2 with h2 | h2 | h2 <;> simp [h2]

theorem witness_ResetArm : 1 ≤ idle.params.rtW := by decide

/-- An idle timer, an unprescaled tick, a prescaled tick that counts and one that matches. -/
theorem witness_ResetTick : (facing idle [.tickT]).schedule = .tickT :: [] ∧ idle.rt.state = .idle ∧
    (idle.rt.state = .armed → 1 ≤ idle.rt.cnt) ∧
    (∃ s : State, s.rt.state = .armed ∧ 1 ≤ s.rt.cnt ∧ s.rt.div + 1 < 2 ^ s.params.rtShift) ∧
    (∃ s : State, s.rt.state = .armed ∧ 1 ≤ s.rt.cnt ∧ 2 ^ s.params.rtShift ≤ s.rt.div + 1 ∧ s.rt.cnt ≠ 1) ∧
    (∃ s : State, s.rt.state = .armed ∧ 1 ≤ s.rt.cnt ∧ 2 ^ s.params.rtShift ≤ s.rt.div + 1 ∧ s.rt.cnt = 1 ∧
      s.irq.reset.reg = false) :=
  ⟨rfl, rfl, by decide, ⟨slow { state := .armed, cnt := 2, div := 6, load := 9 }, by decide⟩,
   ⟨slow { state := .armed, cnt := 2, div := 7, load := 9 }, by decide⟩,
   ⟨slow { state := .armed, cnt := 1, div := 7, load := 9 }, by decide⟩⟩

/-- A zero delay, and one past the longest. -/
theorem witness_ResetFiresExactlyOnce : idle.params.Ok ∧
    (∃ t, exec (.rtArm 0) idle = .next t) ∧ (∃ t, exec (.rtArm 65536) idle = .next t) ∧
    ∀ e ∈ others, e ≠ .reset ∧ e.instr? ≠ some .rtDisarm ∧ ∀ c, e.instr? ≠ some (.rtArm c) :=
  ⟨default_ok, ⟨_, rfl⟩, ⟨_, rfl⟩,
   fun e he => ⟨(others_instr e he).1, others_not he (by decide), fun c => others_not he (by simp)⟩⟩

/-- The longest width that still ends before the next pulse: 1194 ticks after 5 of 1200. -/
theorem witness_StepPulseEndsBeforeNextPulse : busy.Inv ∧ busy.pt.state = .running ∧
    busy.pt.elapsed busy.params + max 1 (min (1194 : Word).toNat (2 ^ busy.params.rtW - 1)) * 2 ^ busy.params.rtShift <
      busy.pt.period busy.params ∧
    (∃ t, exec (.rtArm 1194) busy = .next t) ∧
    ∀ e ∈ others, e ≠ .reset ∧ e.instr? ≠ some .rtDisarm ∧ (∀ c, e.instr? ≠ some (.rtArm c)) ∧
      e.instr? ≠ some .ptStop ∧ ∀ q, e.instr? ≠ some (.ptConfigure q) :=
  ⟨busy_inv, rfl, by decide, ⟨_, rfl⟩,
   fun e he => ⟨(others_instr e he).1, others_not he (by decide), fun c => others_not he (by simp),
     others_not he (by decide), fun q => others_not he (by simp)⟩⟩

/-- Below, at both ends of, and above the range 5 to 250. -/
theorem witness_SpindleOperations : ∃ s : State, (4 : Word).toNat < s.cfg.pwmOff ∧
    (s.cfg.pwmOff ≤ (251 : Word).toNat ∧ s.cfg.pwmMax < (251 : Word).toNat) ∧
    (s.cfg.pwmOff ≤ (5 : Word).toNat ∧ (5 : Word).toNat ≤ s.cfg.pwmMax) ∧
    (s.cfg.pwmOff ≤ (250 : Word).toNat ∧ (250 : Word).toNat ≤ s.cfg.pwmMax) :=
  ⟨idle.setCfg { idle.cfg with pwmOff := 5, pwmMax := 250 }, by decide⟩

theorem witness_SpindleTick : (facing busy [.tickV]).schedule = .tickV :: [] ∧ busy.vst.en = true ∧
    idle.vst.en = false := by decide

theorem witness_PwmWaveform : quiet.Inv ∧ quiet.vst.en = false ∧ (∃ t, exec (.vstEnable true) quiet = .next t) ∧
    ∀ e ∈ others, e ≠ .reset ∧ e.instr? ≠ some (.vstEnable false) :=
  ⟨quiet_inv, rfl, ⟨_, rfl⟩, fun e he => ⟨(others_instr e he).1, others_not he (by decide)⟩⟩

/-- The spindle pin of the test profile is pin 3 of location 3. -/
theorem witness_PwmPadOverride : busy.params.profile.desc[busy.params.profile.vstPin]? =
    some { valid := true, kind := .pin, dir := .output, loc := 3, bitpos := 3, mask := 0x08, pol := 0 } := rfl

theorem witness_SpindleIndependent : (∃ v, Instr.vstSetDuty 5 = .vstSetDuty v) ∧
    Instr.dtArm ∈ [.ptStart, .ptStop, .ptStatus, .rtDisarm, .rtStatus, .dtArm, .dtDisarm, .dtStatus] :=
  ⟨⟨5, rfl⟩, by decide⟩

theorem witness_DebounceArm : 1 ≤ busy.params.dtW ∧ busy.dt.state = .armed ∧ idle.dt.state = .idle := by decide

theorem witness_DebounceTick : (facing idle [.tickD]).schedule = .tickD :: [] ∧ idle.dt.state = .idle ∧
    (busy.dt.state = .armed ∧ busy.dt.cnt ≠ 0 ∧ busy.dt.cnt ≠ 1) ∧
    (busy.setDt { busy.dt with cnt := 1 }).dt.state = .armed ∧ (busy.setDt { busy.dt with cnt := 1 }).dt.cnt = 1 := by
  decide

/-- Events inside a debounce window. -/
def inWindow : List Event := others ++ [.bus 0x503000000000, .bus 0x508C00000007]

/-- A window of 32 ticks, with a second arm, a write of the delay and two ticks inside it. -/
theorem witness_OneDebounceWindow : 1 ≤ quiet.params.dtW ∧ quiet.dt.state = .idle ∧
    (∃ t, exec .dtArm quiet = .next t) ∧
    (∀ e ∈ inWindow, e ≠ .reset ∧ e.instr? ≠ some .dtDisarm) ∧
    inWindow.count .tickD <
      max 1 (min quiet.cfg.debounce (2 ^ quiet.params.dtW - 1)) :=
  ⟨by decide, rfl, ⟨_, rfl⟩, by decide, by decide⟩

/-- An unbound index, one past the table, and a bound entry. -/
theorem witness_GpioInit : idle.params.Bound 7 [.pin, .group] [.input, .output] = false ∧
    idle.params.Bound 16 [.pin, .group] [.input, .output] = false ∧
    (idle.params.profile.desc[(0 : DescIdx).toNat]? = some step0 ∧ step0.valid = true) := by decide

/-- A pin, an input group, and an output group. -/
theorem witness_GpioWrite : idle.params.Bound 4 [.group] [.output] = false ∧
    idle.params.Bound 2 [.group] [.output] = false ∧
    (idle.params.profile.desc[(0 : DescIdx).toNat]? = some step0 ∧ step0.valid = true ∧ step0.kind = .group ∧
      step0.dir = .output) := by decide

/-- STEPPERS_DISABLE, LIMIT, PROBE and an unbound entry of the test profile. -/
def disable6 : Descriptor :=
  { valid := true, kind := .pin, dir := .output, loc := 1, bitpos := 0, mask := 0x01, pol := 0 }
def limit2 : Descriptor :=
  { valid := true, kind := .group, dir := .input, loc := 1, bitpos := 0, mask := 0x0E, pol := 0 }
def probe5 : Descriptor :=
  { valid := true, kind := .pin, dir := .input, loc := 2, bitpos := 5, mask := 0x20, pol := 0x20 }

theorem witness_GpioWritePin : idle.params.Ok ∧ idle.params.Bound 0 [.pin] [.output] = false ∧
    idle.params.Bound 5 [.pin] [.output] = false ∧
    (idle.params.profile.desc[(6 : DescIdx).toNat]? = some disable6 ∧ disable6.valid = true ∧ disable6.kind = .pin ∧
      disable6.dir = .output) := ⟨default_ok, by decide⟩

theorem witness_GpioRead : idle.params.Ok ∧ idle.params.ndesc ≤ (16 : DescIdx).toNat ∧
    (idle.params.profile.desc[(15 : DescIdx).toNat]? = some Descriptor.unbound ∧ Descriptor.unbound.valid = false) ∧
    (idle.params.profile.desc[(0 : DescIdx).toNat]? = some step0 ∧ step0.valid = true ∧ step0.kind = .group) ∧
    (idle.params.profile.desc[(5 : DescIdx).toNat]? = some probe5 ∧ probe5.valid = true ∧ probe5.kind = .pin) :=
  ⟨default_ok, by decide⟩

theorem witness_GpioSetPullup : idle.params.Bound 200 [.pin, .group] [.input, .output] = false ∧
    (idle.params.profile.desc[(0 : DescIdx).toNat]? = some step0 ∧ step0.valid = true ∧ step0.dir = .output) ∧
    (idle.params.profile.desc[(2 : DescIdx).toNat]? = some limit2 ∧ limit2.valid = true ∧ limit2.dir = .input) := by decide

/-- Clearing the last mask bit, and clearing one of two groups that are watched. -/
theorem witness_GpioChangeInt : idle.params.Bound 5 [.group] [.input, .output] = false ∧
    (busy.params.profile.desc[(2 : DescIdx).toNat]? = some limit2 ∧ limit2.valid = true ∧ limit2.kind = .group) ∧
    (∀ l : Loc, l.toNat < busy.params.nloc →
      ((busy.setPort 1 { busy.port 1 with pcmsk := (busy.port 1).pcmsk &&& ~~~limit2.mask }).port l).pcmsk = 0) ∧
    (∃ l : Loc, l.toNat < busy.params.nloc ∧
      ((busy.setPort 1 { busy.port 1 with pcmsk := (busy.port 1).pcmsk ||| limit2.mask }).port l).pcmsk ≠ 0) :=
  ⟨by decide, by decide, by decide +kernel, ⟨1, by decide +kernel⟩⟩

/-- The last location; a watched pin that changes and watched pins that stay. -/
theorem witness_PadEventDetectsChange :
    ((facing busy [.pad 3 0xFF]).schedule = .pad 3 0xFF :: [] ∧ (3 : Loc).toNat < busy.params.nloc) ∧
    ((busy.port 1).pcmsk.getLsbD 1 = true ∧
      (busy.pinlvl 1).getLsbD 1 ≠ ((busy.setPad 1 0x0E).pinlvl 1).getLsbD 1) ∧
    (∀ b, b < 16 → (busy.port 1).pcmsk.getLsbD b = true →
      (busy.pinlvl 1).getLsbD b = ((busy.setPad 1 0x8C).pinlvl 1).getLsbD b) :=
  ⟨⟨rfl, by decide⟩, by decide +kernel, by decide +kernel⟩

theorem witness_GpioWritesOnlyUnderMask : idle.params.Ok ∧
    (idle.params.profile.desc[(0 : DescIdx).toNat]? = some step0 ∧ step0.valid = true) ∧
    (∃ t, exec (.gpInit 0) idle = .next t) ∧ (∃ t, exec (.gpWrite 0 0xFFFF) idle = .next t) ∧
    (∃ t, exec (.gpWritePin 6 1) idle = .next t) ∧ (∃ t, exec (.gpRead 0) idle = .next t) ∧
    (∃ t, exec (.gpSetPullup 2 1) idle = .next t) ∧ (∃ t, exec (.gpChangeInt 2 1) idle = .next t) :=
  ⟨default_ok, by decide, ⟨_, rfl⟩, ⟨_, rfl⟩, ⟨_, rfl⟩, ⟨_, rfl⟩, ⟨_, rfl⟩, ⟨_, rfl⟩⟩

theorem witness_GpioWriteThenRead : idle.params.Ok ∧
    (idle.params.profile.desc[(0 : DescIdx).toNat]? = some step0 ∧ step0.valid = true ∧ step0.dir = .output ∧
      step0.kind = .group ∧ ∃ t, exec (.gpWrite 0 0xFFFF) idle = .next t ∧ t.params = t.params ∧
        (t.port 0).inv = (idle.port 0).inv) ∧
    (idle.params.profile.desc[(6 : DescIdx).toNat]? = some disable6 ∧ disable6.valid = true ∧
      disable6.dir = .output ∧ disable6.kind = .pin ∧ ∃ t, exec (.gpWritePin 6 1) idle = .next t ∧
        (t.port 1).inv = (idle.port 1).inv) :=
  ⟨default_ok, ⟨by decide, by decide, rfl, rfl, _, rfl, rfl, by decide +kernel⟩,
   ⟨by decide, by decide, rfl, rfl, _, rfl, by decide +kernel⟩⟩

theorem witness_DescriptorWindows : idle.params.ndesc ≤ (16 : DescIdx).toNat ∧
    (idle.params.profile.desc[(15 : DescIdx).toNat]? = some Descriptor.unbound ∧ Descriptor.unbound.valid = false) ∧
    (idle.params.profile.desc[(5 : DescIdx).toNat]? = some probe5 ∧ probe5.valid = true) ∧
    (idle.params.profile.desc[(0 : DescIdx).toNat]? = some step0 ∧ step0.valid = true) := by decide

theorem witness_CallbackRegistration : (busy.irq.get .pulse).reg = true ∧ (idle.irq.get .change).reg = false := by decide

/-- A source whose line is high; sources not pending, not registered, in service; a source in service and one not. -/
theorem witness_InterruptHandshake :
    ((waiting.irq.get .pulse).pend = true ∧ (waiting.irq.get .pulse).reg = true ∧
      (waiting.irq.get .pulse).inserv = false) ∧
    (waiting.irq.get .change).pend = false ∧ (idle.irq.get .change).reg = false ∧
    (busy.irq.get .reset).inserv = true ∧ (busy.irq.get .pulse).inserv = false := by decide

theorem witness_InvertMasks : idle.params.nloc ≤ (4 : Loc).toNat ∧ (3 : Loc).toNat < idle.params.nloc := by decide

theorem witness_RawPortViews : idle.params.nloc ≤ (4 : Loc).toNat ∧ (3 : Loc).toNat < idle.params.nloc := by decide

theorem witness_ReadsChangeNothing :
    ((Instr.gpRead 5).isWrite = false ∧ (Instr.gpRead 5).WellFormed idle.params = true ∧
      (Instr.gpRead 5).Resolved idle.params = true) ∧
    ((Instr.rawIn 3).isWrite = false ∧ (Instr.rawIn 3).WellFormed idle.params = true ∧
      (Instr.rawIn 3).Resolved idle.params = true) := by decide

/-- A read, and one operation of each clause. -/
theorem witness_IdempotentOperations :
    ((Instr.gpRead 16).isWrite = false ∧ ∃ t, exec (.gpRead 16) busy = .next t) ∧
    (∃ t, exec .ptStart idle = .next t) ∧ (busy.dt.state = .armed ∧ ∃ t, exec .dtArm busy = .next t) ∧
    (busy.pt.state = .running ∧ ∃ t, exec (.ptConfigure 7) busy = .next t) ∧
    (∃ t, exec (.vstEnable true) quiet = .next t) ∧ (∃ t, exec (.vstSetDuty 9) busy = .next t) ∧
    (∃ t, exec (.gpInit 2) busy = .next t) ∧ (∃ t, exec (.gpWrite 0 0xFF) busy = .next t) ∧
    (∃ t, exec (.cfgSet .debounce 9) busy = .next t) ∧ (∃ t, exec (.invSet 7 9) busy = .next t) :=
  ⟨⟨rfl, _, rfl⟩, ⟨_, rfl⟩, ⟨rfl, _, rfl⟩, ⟨rfl, _, rfl⟩, ⟨_, rfl⟩, ⟨_, rfl⟩, ⟨_, rfl⟩, ⟨_, rfl⟩, ⟨_, rfl⟩, ⟨_, rfl⟩⟩

theorem witness_ContextDoesNotMatter : Instr.ptStart ≠ .irqPending ∧
    (∀ src, Instr.ptStart ≠ .irqTake src ∧ Instr.ptStart ≠ .irqDone src) ∧
    ∃ f : State → State, ∀ u : State, f u = { u with irq :=
      { pulse := { u.irq.pulse with inserv := true }, reset := { u.irq.reset with inserv := false },
        debounce := { u.irq.debounce with inserv := true }, change := { u.irq.change with inserv := false } } } :=
  ⟨by decide, by intro src; simp, fun u => { u with irq :=
      { pulse := { u.irq.pulse with inserv := true }, reset := { u.irq.reset with inserv := false },
        debounce := { u.irq.debounce with inserv := true }, change := { u.irq.change with inserv := false } } },
   fun _ => rfl⟩

/-- Other counters with the same PWM output, and a read. -/
theorem witness_HiddenCountersUnreadable :
    ({ busy with pt := { busy.pt with cnt := 9, div := 0, cmp := 77 }, rt := { busy.rt with cnt := 1, div := 0 },
                 vst := { busy.vst with cnt := 3 }, dt := { busy.dt with cnt := 2 } } : State).vst.pwmOut =
      busy.vst.pwmOut ∧ Instr.ptStatus.isWrite = false := by decide

end Sys2Proof.Tests
end

/-! # What an event can do

One relation for the writes that answer `OK`, one for the answer of any operation and one for the event of a step,
each tied to the model by a lemma (`exec_answers`, `step_happens`). The invariants of the state and the ownership of
its pieces are proved along their constructors; no later proof opens `exec` or `step` again. -/

namespace Sys2Proof.Machine

section Effects

variable {s t u : State} {i : Instr} {e : Event}

/-- The change mask of a group set or cleared, the register write of GP.CHANGE_INT (41_gpio_engine.md R107). -/
abbrev State.watch (s : State) (d : Descriptor) (b : Bool) : State :=
  s.setPort d.loc { s.port d.loc with pcmsk := maskWrite (s.port d.loc).pcmsk d.mask b }

/-- The state a write leaves when it answers `OK`, before the answer is recorded: one constructor for each operation
and each branch of its rule, with the guard of the branch. -/
inductive Writes (s : State) : Instr → State → Prop
  | ptConfigure (p : Word) : s.pt.state ≠ .armed → p ≠ 0 → Writes s (.ptConfigure p) (s.setPt { s.pt with
      pselB := (ptDerive s.params p.toNat).1, cmpB := (ptDerive s.params p.toNat).2, valid := true,
      state := if s.pt.state = .idle then .armed else s.pt.state })
  | ptStart : s.pt.state ≠ .running → s.pt.valid = true → Writes s .ptStart (s.setPt { s.pt with
      psel := s.pt.pselB, cmp := s.pt.cmpB, cnt := 0, div := 0, state := .running })
  | ptStartAgain : s.pt.state = .running → Writes s .ptStart s
  | ptStop : Writes s .ptStop (cancel .pulse (s.setPt { s.pt with state := .idle, psel := 0, div := 0, cnt := 0 }))
  | rtArm (d : Word) : Writes s (.rtArm d) (widthCheck (rtDelay s.params d)
      (s.setRt { state := .armed, cnt := rtDelay s.params d, div := 0, load := rtDelay s.params d }))
  | rtDisarm : Writes s .rtDisarm (cancel .reset (s.setRt { s.rt with state := .idle, cnt := 0, div := 0 }))
  | vstEnable : Writes s (.vstEnable true) (s.setVst { s.vst with en := true })
  | vstDisable : Writes s (.vstEnable false) (s.setVst { s.vst with en := false, cnt := 0 })
  | vstSetDuty (v : Word) :
      Writes s (.vstSetDuty v) (s.setVst { s.vst with duty := clamp v.toNat s.cfg.pwmOff s.cfg.pwmMax })
  | dtArm : s.dt.state ≠ .armed → Writes s .dtArm (s.setDt { state := .armed, cnt := dtDelay s, load := dtDelay s })
  | dtArmAgain : s.dt.state = .armed → Writes s .dtArm s
  | dtDisarm : Writes s .dtDisarm (cancel .debounce (s.setDt { s.dt with state := .idle, cnt := 0 }))
  | gpInit (desc : DescIdx) (d : Descriptor) : gpCheck s.params desc [.pin, .group] [.input, .output] = some d →
      Writes s (.gpInit desc) (writePort s d.loc { s.port d.loc with
        dir := maskWrite (s.port d.loc).dir d.mask (d.dir = .output) })
  | gpWrite (desc : DescIdx) (val : BitVec 16) (d : Descriptor) : gpCheck s.params desc [.group] [.output] = some d →
      Writes s (.gpWrite desc val) (writePort s d.loc { s.port d.loc with
        out := maskMerge (s.port d.loc).out d.mask (portBits s.params val ^^^ toggle d (s.port d.loc).inv) })
  | gpWritePin (desc : DescIdx) (val : BitVec 16) (d : Descriptor) : gpCheck s.params desc [.pin] [.output] = some d →
      Writes s (.gpWritePin desc val) (writePort s d.loc { s.port d.loc with
        out := ((s.port d.loc).out &&& ~~~d.mask) |||
          ((BitVec.ofBool ((val.getLsbD 0) ^^ ((toggle d (s.port d.loc).inv).getLsbD d.bitpos.toNat))).setWidth 16
            <<< d.bitpos.toNat) })
  | gpSetPullup (desc : DescIdx) (val : BitVec 16) (d : Descriptor) :
      gpCheck s.params desc [.pin, .group] [.input, .output] = some d → d.dir = .input →
      Writes s (.gpSetPullup desc val) (s.setPort d.loc { s.port d.loc with
        pue := maskWrite (s.port d.loc).pue d.mask (val.getLsbD 0) })
  | gpSetPullupOutput (desc : DescIdx) (val : BitVec 16) (d : Descriptor) :
      gpCheck s.params desc [.pin, .group] [.input, .output] = some d → d.dir ≠ .input →
      Writes s (.gpSetPullup desc val) s
  | gpChangeInt (desc : DescIdx) (val : BitVec 16) (d : Descriptor) :
      gpCheck s.params desc [.group] [.input, .output] = some d →
      noChangeMask (s.watch d (val.getLsbD 0)) = false →
      Writes s (.gpChangeInt desc val) (s.watch d (val.getLsbD 0))
  | gpChangeIntLast (desc : DescIdx) (val : BitVec 16) (d : Descriptor) :
      gpCheck s.params desc [.group] [.input, .output] = some d →
      noChangeMask (s.watch d (val.getLsbD 0)) = true →
      Writes s (.gpChangeInt desc val) (cancel .change (s.watch d (val.getLsbD 0)))
  | cbRegister (src : Src) (handle : Word) : (s.irq.get src).reg = false →
      Writes s (.cbRegister src handle) (s.setIrq (s.irq.set src { s.irq.get src with cbvec := handle, reg := true }))
  | irqTake (src : Src) : (s.irq.get src).line = true → Writes s (.irqTake src) (takeIrq src s)
  | irqDone (src : Src) : (s.irq.get src).inserv = true → Writes s (.irqDone src) (doneIrq src s)
  | cfgSet (k : CfgReg) (v : Word) :
      Writes s (.cfgSet k v) (s.setCfg (s.cfg.set k (saturate (cfgWidth s.params k) v.toNat)))
  | invSet (loc : Loc) (m : Word) : loc.toNat < s.params.nloc →
      Writes s (.invSet loc m) (s.setPort loc { s.port loc with inv := portBits s.params m })

/-- The three ways an operation answers: it fails, it is a read, or it is a write that answers `OK`. -/
inductive Answers (s : State) (i : Instr) : Out → Prop
  | fails (c : Err) : Answers s i (raise c i s)
  | reads (v : Word) : i.isWrite = false → Answers s i (okRead v s)
  | writes {u : State} : Writes s i u → Answers s i (ok u)

/-! Each operation answers in one of these ways (00_scope.md R8). -/

theorem execPtConfigure_answers (p : Word) : Answers s (.ptConfigure p) (execPtConfigure p s) := by
  unfold execPtConfigure
  split
  · exact .fails _
  split
  · exact .fails _
  next hs hp => exact .writes (.ptConfigure p hs hp)

theorem execPtStart_answers : Answers s .ptStart (execPtStart s) := by
  unfold execPtStart
  split
  next hs => exact .writes (.ptStartAgain hs)
  split
  · exact .fails _
  next hs hv => exact .writes (.ptStart hs (by simpa using hv))

theorem execVstEnable_answers (b : Bool) : Answers s (.vstEnable b) (execVstEnable b s) := by
  cases b
  case false => exact .writes .vstDisable
  case true => exact .writes .vstEnable

theorem execDtArm_answers : Answers s .dtArm (execDtArm s) := by
  unfold execDtArm
  split
  next hs => exact .writes (.dtArmAgain hs)
  next hs => exact .writes (.dtArm hs)

theorem execGpInit_answers (desc : DescIdx) : Answers s (.gpInit desc) (execGpInit desc s) := by
  unfold execGpInit
  split
  · exact .fails _
  next d hd => exact .writes (.gpInit desc d hd)

theorem execGpWrite_answers (desc : DescIdx) (val : BitVec 16) :
    Answers s (.gpWrite desc val) (execGpWrite desc val s) := by
  unfold execGpWrite
  split
  · exact .fails _
  next d hd => exact .writes (.gpWrite desc val d hd)

theorem execGpWritePin_answers (desc : DescIdx) (val : BitVec 16) :
    Answers s (.gpWritePin desc val) (execGpWritePin desc val s) := by
  unfold execGpWritePin
  split
  · exact .fails _
  next d hd => exact .writes (.gpWritePin desc val d hd)

theorem execGpSetPullup_answers (desc : DescIdx) (val : BitVec 16) :
    Answers s (.gpSetPullup desc val) (execGpSetPullup desc val s) := by
  unfold execGpSetPullup
  split
  · exact .fails _
  next d hd =>
    split
    next hi => exact .writes (.gpSetPullup desc val d hd hi)
    next hi => exact .writes (.gpSetPullupOutput desc val d hd hi)

theorem execGpChangeInt_answers (desc : DescIdx) (val : BitVec 16) :
    Answers s (.gpChangeInt desc val) (execGpChangeInt desc val s) := by
  unfold execGpChangeInt
  split
  · exact .fails _
  next d hd =>
    cases hm : noChangeMask (s.watch d (val.getLsbD 0)) with
    | false =>
      simp only [hm]
      exact .writes (.gpChangeInt desc val d hd hm)
    | true =>
      simp only [hm]
      exact .writes (.gpChangeIntLast desc val d hd hm)

theorem execGpRead_answers (desc : DescIdx) : Answers s (.gpRead desc) (execGpRead desc s) := by
  unfold execGpRead
  split
  · exact .fails _
  split
  · exact .fails _
  · exact .reads _ rfl

theorem execCbRegister_answers (src : Src) (handle : Word) :
    Answers s (.cbRegister src handle) (execCbRegister src handle s) := by
  unfold execCbRegister
  split
  · exact .fails _
  next hr => exact .writes (.cbRegister src handle (by simpa using hr))

theorem execIrqTake_answers (src : Src) : Answers s (.irqTake src) (execIrqTake src s) := by
  unfold execIrqTake
  split
  next hl => exact .writes (.irqTake src hl)
  · exact .fails _

theorem execIrqDone_answers (src : Src) : Answers s (.irqDone src) (execIrqDone src s) := by
  unfold execIrqDone
  split
  next hi => exact .writes (.irqDone src hi)
  · exact .fails _

theorem execInvSet_answers (loc : Loc) (m : Word) : Answers s (.invSet loc m) (execInvSet loc m s) := by
  unfold execInvSet
  split
  · exact .fails _
  next hl => exact .writes (.invSet loc m (by omega))

/-- A read of a register of a location fails or answers with it (30_encoding.md R73 step 4). -/
theorem readLoc_answers (hi : i.isWrite = false) (loc : Loc) (v : Port) : Answers s i (readLoc i loc v s) := by
  unfold readLoc
  split
  · exact .fails _
  · exact .reads _ hi

/-- A window read fails or answers with a word of the entry (40_virtual_port_model.md R90, R91). -/
theorem readWindow_answers (hi : i.isWrite = false) (desc : DescIdx) (word : Descriptor → Word) :
    Answers s i (readWindow i desc word s) := by
  unfold readWindow
  split
  · exact .fails _
  · exact .reads _ hi

/-- Every operation fails, reads, or does one of the writes of `Writes`. -/
theorem exec_answers (i : Instr) (s : State) : Answers s i (exec i s) := by
  cases i with
  | ptConfigure p => exact execPtConfigure_answers p
  | ptStart => exact execPtStart_answers
  | ptStop => exact .writes .ptStop
  | ptStatus => exact .reads _ rfl
  | rtArm d => exact .writes (.rtArm d)
  | rtDisarm => exact .writes .rtDisarm
  | rtStatus => exact .reads _ rfl
  | vstEnable b => exact execVstEnable_answers b
  | vstSetDuty v => exact .writes (.vstSetDuty v)
  | vstIsEnabled => exact .reads _ rfl
  | vstStatus => exact .reads _ rfl
  | dtArm => exact execDtArm_answers
  | dtDisarm => exact .writes .dtDisarm
  | dtStatus => exact .reads _ rfl
  | gpInit desc => exact execGpInit_answers desc
  | gpWrite desc val => exact execGpWrite_answers desc val
  | gpWritePin desc val => exact execGpWritePin_answers desc val
  | gpSetPullup desc val => exact execGpSetPullup_answers desc val
  | gpChangeInt desc val => exact execGpChangeInt_answers desc val
  | cbRegister src handle => exact execCbRegister_answers src handle
  | cbRead src => exact .reads _ rfl
  | irqPending => exact .reads _ rfl
  | irqTake src => exact execIrqTake_answers src
  | irqDone src => exact execIrqDone_answers src
  | cfgSet k v => exact .writes (.cfgSet k v)
  | cfgGet k => exact .reads _ rfl
  | errStatus => exact .reads _ rfl
  | errInfo => exact .reads _ rfl
  | rawDir loc => exact readLoc_answers rfl loc _
  | rawOut loc => exact readLoc_answers rfl loc _
  | rawIn loc => exact readLoc_answers rfl loc _
  | rawPue loc => exact readLoc_answers rfl loc _
  | rawPcmsk loc => exact readLoc_answers rfl loc _
  | invSet loc m => exact execInvSet_answers loc m
  | invGet loc => exact readLoc_answers rfl loc _
  | gpRead desc => exact execGpRead_answers desc
  | vpResolve desc => exact readWindow_answers rfl desc _
  | vpPol desc => exact readWindow_answers rfl desc _

/-- The state an event leaves, `s` being the state without the event in its schedule (00_scope.md R7). A
failing transaction `x` records the word `y`: that of the operation, or `x` itself when it decodes to none (log 13). -/
inductive Happens (s : State) : Event → State → Prop
  | fails (x y : Xact) (c : Err) : Happens s (.bus x) (fail c y s)
  | reads (x : Xact) (v : Word) : Happens s (.bus x) (s.setAnswer ⟨.ok, v⟩)
  | writes (x : Xact) {i : Instr} {u : State} :
      (Event.bus x).instr? = some i → Writes s i u → Happens s (.bus x) (u.setAnswer ⟨.ok, 0⟩)
  | tickT : Happens s .tickT (tickT s)
  | tickV : Happens s .tickV (tickV s)
  | tickD : Happens s .tickD (tickD s)
  | pad (loc : Loc) (v : BitVec 16) : Happens s (.pad loc v) (padEvent loc v s)
  | reset : Happens s .reset (resetEvent s)

/-- A transaction of a legal operation. -/
theorem Answers.happens {o : Out} (h : Answers s i o) (x : Xact) (hi : (Event.bus x).instr? = some i) (ho : o = .next t) :
    Happens s (.bus x) t := by
  cases h with
  | fails c =>
    cases ho
    exact .fails x (encode i) c
  | reads v _ =>
    cases ho
    exact .reads x v
  | writes hw =>
    cases ho
    exact .writes x hi hw

theorem bus_happens {x : Xact} (h : bus x s = .next t) : Happens s (.bus x) t := by
  unfold bus at h
  split at h
  next i hd => exact (exec_answers i s).happens x (by simp [Event.instr?, hd, Except.toOption]) h
  next =>
    cases h
    exact .fails x x .busErr

/-- A step with an event to come is what the event does to the state without it. -/
theorem step_happens {es : List Event} (hs : s.schedule = e :: es) (h : step s = .next t) :
    Happens (s.setSchedule es) e t := by
  unfold step at h
  rw [fetch_cons s hs] at h
  cases e with
  | bus x => exact bus_happens h
  | tickT =>
    cases h
    exact .tickT
  | tickV =>
    cases h
    exact .tickV
  | tickD =>
    cases h
    exact .tickD
  | pad loc v =>
    cases h
    exact .pad loc v
  | reset =>
    cases h
    exact .reset

/-- A step with no event to come stays (log 4). -/
theorem step_idle (hs : s.schedule = []) (h : step s = .next t) : t = s := by
  unfold step at h
  rw [fetch_nil s hs] at h
  cases h
  rfl

/-- A property that the passing of the schedule and every event keep is kept by every step. -/
theorem step_induct {P : State → Prop} (hsched : ∀ s es, P s → P (s.setSchedule es))
    (hev : ∀ s e t, P s → Happens s e t → P t) (hs : P s) (h : step s = .next t) : P t := by
  cases hsc : s.schedule with
  | nil => exact step_idle hsc h ▸ hs
  | cons e es => exact hev _ e t (hsched s es hs) (step_happens hsc h)

end Effects

end Sys2Proof.Machine
/-! # The two parts of the base tick and the other ticks, branch by branch -/

namespace Sys2Proof.Machine

section Ticks

variable (s : State)

/-- The Pulse Timer's part of a base tick (42_pulse_timer.md R127): idle, a base tick inside a prescaled one, a count,
or a match. -/
theorem ptTick_cases :
    (s.pt.state ≠ .running ∧ ptTick s = s) ∨
    (s.pt.state = .running ∧ s.pt.div + 1 < 2 ^ s.params.ptShift s.pt.psel ∧
      ptTick s = s.setPt { s.pt with div := s.pt.div + 1 }) ∨
    (s.pt.state = .running ∧ 2 ^ s.params.ptShift s.pt.psel ≤ s.pt.div + 1 ∧ s.pt.cnt < s.pt.cmp ∧
      ptTick s = s.setPt { s.pt with div := 0, cnt := s.pt.cnt + 1 }) ∨
    (s.pulseFires ∧
      ptTick s = fire .pulse (s.setPt { s.pt with div := 0, cnt := 0, psel := s.pt.pselB, cmp := s.pt.cmpB })) := by
  unfold ptTick
  split
  next hr =>
    split
    next hd => exact .inr (.inl ⟨hr, hd, rfl⟩)
    next hd =>
      unfold ptPrescaled
      split
      next hc => exact .inr (.inr (.inl ⟨hr, Nat.le_of_not_lt hd, hc, rfl⟩))
      next hc => exact .inr (.inr (.inr ⟨⟨hr, Nat.le_of_not_lt hd, Nat.le_of_not_lt hc⟩, rfl⟩))
  next hr => exact .inl ⟨hr, rfl⟩

/-- The Reset Timer's part of a base tick (43_reset_timer.md R144): idle, a base tick inside a prescaled one, a count,
or the match. -/
theorem rtTick_cases :
    (s.rt.state ≠ .armed ∧ rtTick s = s) ∨
    (s.rt.state = .armed ∧ s.rt.div + 1 < 2 ^ s.params.rtShift ∧ rtTick s = s.setRt { s.rt with div := s.rt.div + 1 }) ∨
    (s.rt.state = .armed ∧ 2 ^ s.params.rtShift ≤ s.rt.div + 1 ∧ 1 < s.rt.cnt ∧
      rtTick s = s.setRt { s.rt with div := 0, cnt := s.rt.cnt - 1 }) ∨
    (s.resetFires ∧ rtTick s = fire .reset (s.setRt { s.rt with div := 0, cnt := 0, state := .idle })) := by
  unfold rtTick
  split
  next ha =>
    split
    next hd => exact .inr (.inl ⟨ha, hd, rfl⟩)
    next hd =>
      split
      next hc => exact .inr (.inr (.inr ⟨⟨ha, Nat.le_of_not_lt hd, by omega⟩, rfl⟩))
      next hc => exact .inr (.inr (.inl ⟨ha, Nat.le_of_not_lt hd, by omega, rfl⟩))
  next ha => exact .inl ⟨ha, rfl⟩

/-- The debounce tick (45_debounce_timer.md R174): idle, a count, or the end of the window. -/
theorem dtTick_cases :
    (s.dt.state ≠ .armed ∧ dtTick s = s) ∨
    (s.dt.state = .armed ∧ 1 < s.dt.cnt ∧ dtTick s = s.setDt { s.dt with cnt := s.dt.cnt - 1 }) ∨
    (s.debounceFires ∧ dtTick s = fire .debounce (s.setDt { s.dt with cnt := 0, state := .idle })) := by
  unfold dtTick
  split
  next ha =>
    split
    next hc => exact .inr (.inr ⟨⟨ha, by omega⟩, rfl⟩)
    next hc => exact .inr (.inl ⟨ha, by omega, rfl⟩)
  next ha => exact .inl ⟨ha, rfl⟩

/-- The spindle tick (44_spindle_pwm.md R160): a count with wrap-around while enabled. -/
theorem vstTick_cases :
    (s.vst.en = true ∧ vstTick s = s.setVst { s.vst with cnt := (s.vst.cnt + 1) % 2 ^ s.params.vstW }) ∨
    (s.vst.en = false ∧ vstTick s = s) := by
  unfold vstTick
  split
  next he => exact .inl ⟨he, rfl⟩
  next he => exact .inr ⟨by simpa using he, rfl⟩

/-- The pad event (41_gpio_engine.md R109): nothing at a location that does not exist (log 8); else the new level, and
CHANGE fires or nothing else happens. -/
theorem padEvent_cases (loc : Loc) (v : BitVec 16) :
    (s.params.nloc ≤ loc.toNat ∧ padEvent loc v s = s) ∨
    (loc.toNat < s.params.nloc ∧
      (padEvent loc v s = fire .change (s.setPad loc (portBits s.params v)) ∨
        padEvent loc v s = s.setPad loc (portBits s.params v))) := by
  unfold padEvent
  split
  next hl => exact .inl ⟨hl, rfl⟩
  next hl =>
    refine .inr ⟨Nat.lt_of_not_le hl, ?_⟩
    rcases pcDetect_cases (s.setPad loc (portBits s.params v)) loc (s.pinlvl loc)
      ((s.setPad loc (portBits s.params v)).pinlvl loc) with ⟨hf, _⟩ | ⟨hf, _⟩
    · exact .inl hf
    · exact .inr hf

end Ticks

end Sys2Proof.Machine

/-! # Port patterns of `PORT_W` bits (10_state.md R16) -/

namespace Sys2Proof.Machine

section PortFits

variable {P : Params} {reg m v : Port}

/-- A pattern fits when its bits from `PORT_W` on are 0. -/
theorem portFits_iff : portFits P v ↔ ∀ b, b < 16 → P.portW ≤ b → v.getLsbD b = false := by
  constructor
  · intro h b hb hw
    have hbit : (v &&& ~~~P.portMask).getLsbD b = (0#16).getLsbD b :=
      congrArg (fun w : Port => w.getLsbD b) h
    rw [BitVec.getLsbD_and, BitVec.getLsbD_not, portMask_bit P hb] at hbit
    simpa only [hb, Nat.not_lt_of_le hw, decide_true, decide_false, Bool.not_false, Bool.and_true,
      BitVec.getLsbD_zero] using hbit
  · intro h
    apply BitVec.eq_of_getLsbD_eq
    intro b hb
    rw [BitVec.getLsbD_and, BitVec.getLsbD_not, portMask_bit P hb]
    by_cases hw : P.portW ≤ b
    · simp [h b hb hw]
    · simp [hb, Nat.lt_of_not_le hw]

theorem portFits_zero : portFits P 0 := by simp [portFits]

theorem portFits_of_toNat_lt (h : v.toNat < 2 ^ P.portW) : portFits P v :=
  portFits_iff.mpr fun b _ hw => Nat.testBit_lt_two_pow (Nat.lt_of_lt_of_le h (Nat.pow_le_pow_right (by omega) hw))

theorem portFits_portBits {n : Nat} (w : BitVec n) : portFits P (portBits P w) :=
  portFits_iff.mpr fun b hb hw => by simp [portBits_bit P w hb, hw]

theorem portFits_maskWrite (hr : portFits P reg) (hm : portFits P m) (c : Bool) : portFits P (maskWrite reg m c) :=
  portFits_iff.mpr fun b hb hw => by
    simp [maskWrite_bit, portFits_iff.mp hr b hb hw, portFits_iff.mp hm b hb hw]

theorem portFits_maskMerge (hr : portFits P reg) (hm : portFits P m) : portFits P (maskMerge reg m v) :=
  portFits_iff.mpr fun b hb hw => by
    simp [maskMerge_bit, portFits_iff.mp hr b hb hw, portFits_iff.mp hm b hb hw]

/-- One bit put at a place below `PORT_W` into a cleared field. -/
theorem portFits_setBit (hr : portFits P reg) (c : Bool) {n : Nat} (hn : n < P.portW) :
    portFits P ((reg &&& ~~~m) ||| ((BitVec.ofBool c).setWidth 16 <<< n)) :=
  portFits_iff.mpr fun b hb hw => by
    have hbn : b - n ≠ 0 := by omega
    simp [portFits_iff.mp hr b hb hw, BitVec.getLsbD_ofBool, hbn]

/-- A descriptor that the check lets through is in order (10_state.md R19, 41_gpio_engine.md R100). -/
theorem gpCheck_ok (hP : P.Ok) {desc : DescIdx} {ks : List Kind} {ds : List Dir} {d : Descriptor}
    (h : gpCheck P desc ks ds = some d) :
    d.loc.toNat < P.nloc ∧ portFits P d.mask ∧ (d.kind = .pin → d.bitpos.toNat < P.portW) := by
  obtain ⟨hget, hvalid, _, _⟩ := gpCheck_some h
  obtain ⟨_, hdesc, _⟩ := hP.profile
  obtain ⟨hloc, _, hmask, _, hpin, _⟩ := hdesc d (List.mem_of_getElem? hget) hvalid
  exact ⟨hloc, portFits_of_toNat_lt hmask, fun hk => (hpin hk).1⟩

end PortFits

end Sys2Proof.Machine

/-! # The invariant, register by register (10_state.md R12 to R21) -/

namespace Sys2Proof.Machine

section Components

variable {P : Params}

/-- The derived pair of a period selects an entry of `PT_SHIFTS` and fits `PT_W` bits (42_pulse_timer.md R122). -/
theorem ptDerive_bounds (hP : P.Ok) (p : Nat) :
    (ptDerive P p).1 < P.ptShifts.length ∧ (ptDerive P p).2 < 2 ^ P.ptW := by
  have hpos := Nat.two_pow_pos P.ptW
  obtain ⟨⟨hlen, _⟩, _, _⟩ := hP.shifts
  unfold ptDerive
  cases hs : ptSearch P.ptW (max p P.ptPeriodMin) 0 P.ptShifts with
  | none =>
    simp only [Option.getD_none]
    omega
  | some q =>
    obtain ⟨j, hsel, hj, hfit, hcmp, _⟩ := ptSearch_some hs
    simp only [Option.getD_some]
    omega

theorem PulseTimer.Inv.configure {t : PulseTimer} (h : t.Inv P) {sel cmp : Nat} (hsel : sel < P.ptShifts.length)
    (hcmp : cmp < 2 ^ P.ptW) :
    PulseTimer.Inv P { t with
      pselB := sel, cmpB := cmp, valid := true, state := if t.state = .idle then .armed else t.state } := by
  obtain ⟨hstop, hrun, _, hpsel, _, hc, _⟩ := h
  refine ⟨fun hs => hstop fun hr => hs (by simp [hr]), fun hs => ?_, fun _ => rfl, hpsel, hsel, hc, hcmp⟩
  have hr : t.state = .running := by
    by_cases hi : t.state = .idle
    · simp [hi] at hs
    · simpa [hi] using hs
  obtain ⟨hcnt, hdiv, _⟩ := hrun hr
  exact ⟨hcnt, hdiv, rfl⟩

theorem PulseTimer.Inv.start {t : PulseTimer} (h : t.Inv P) (hv : t.valid = true) :
    PulseTimer.Inv P { t with psel := t.pselB, cmp := t.cmpB, cnt := 0, div := 0, state := .running } := by
  obtain ⟨_, _, _, _, hselB, _, hcmpB⟩ := h
  exact ⟨fun hs => absurd rfl hs, fun _ => ⟨Nat.zero_le _, Nat.two_pow_pos _, hv⟩, nofun, hselB, hselB, hcmpB, hcmpB⟩

theorem PulseTimer.Inv.stop {t : PulseTimer} (h : t.Inv P) :
    PulseTimer.Inv P { t with state := .idle, psel := 0, div := 0, cnt := 0 } := by
  obtain ⟨_, _, _, hsel, hselB, hcmp, hcmpB⟩ := h
  exact ⟨fun _ => ⟨rfl, rfl, rfl⟩, nofun, nofun, Nat.zero_lt_of_lt hsel, hselB, hcmp, hcmpB⟩

/-- The running timer counts within the prescaler and the compare value. -/
theorem PulseTimer.Inv.count {t : PulseTimer} (h : t.Inv P) (hr : t.state = .running) {div cnt : Nat}
    (hdiv : div < 2 ^ P.ptShift t.psel) (hcnt : cnt ≤ t.cmp) : PulseTimer.Inv P { t with div := div, cnt := cnt } := by
  obtain ⟨_, hrun, harm, hsel, hselB, hcmp, hcmpB⟩ := h
  obtain ⟨_, _, hv⟩ := hrun hr
  exact ⟨fun hs => absurd hr hs, fun _ => ⟨hcnt, hdiv, hv⟩, harm, hsel, hselB, hcmp, hcmpB⟩

/-- A match makes the buffered pair active and starts a new cycle. -/
theorem PulseTimer.Inv.reload {t : PulseTimer} (h : t.Inv P) (hr : t.state = .running) :
    PulseTimer.Inv P { t with div := 0, cnt := 0, psel := t.pselB, cmp := t.cmpB } := by
  obtain ⟨_, hrun, harm, _, hselB, _, hcmpB⟩ := h
  obtain ⟨_, _, hv⟩ := hrun hr
  exact ⟨fun hs => absurd hr hs, fun _ => ⟨Nat.zero_le _, Nat.two_pow_pos _, hv⟩, harm, hselB, hselB, hcmpB, hcmpB⟩

theorem ResetTimer.inv_armed {d : Nat} (h1 : 1 ≤ d) (hd : d < 2 ^ P.rtW) :
    ResetTimer.Inv P { state := .armed, cnt := d, div := 0, load := d } :=
  ⟨nofun, fun _ => h1, Nat.two_pow_pos _, hd, hd⟩

theorem ResetTimer.Inv.idle {t : ResetTimer} (h : t.Inv P) :
    ResetTimer.Inv P { t with state := .idle, cnt := 0, div := 0 } := by
  obtain ⟨_, _, _, _, hload⟩ := h
  exact ⟨fun _ => ⟨rfl, rfl⟩, nofun, Nat.two_pow_pos _, Nat.two_pow_pos _, hload⟩

/-- The armed timer counts down to no less than one. -/
theorem ResetTimer.Inv.count {t : ResetTimer} (h : t.Inv P) (ha : t.state = .armed) {div cnt : Nat}
    (hdiv : div < 2 ^ P.rtShift) (h1 : 1 ≤ cnt) (hcnt : cnt ≤ t.cnt) :
    ResetTimer.Inv P { t with div := div, cnt := cnt } := by
  obtain ⟨_, _, _, hw, hload⟩ := h
  exact ⟨fun hs => by simp [ha] at hs, fun _ => h1, hdiv, Nat.lt_of_le_of_lt hcnt hw, hload⟩

theorem SpindleTimer.Inv.enable {t : SpindleTimer} (h : t.Inv P) : SpindleTimer.Inv P { t with en := true } := by
  obtain ⟨_, hcnt, hduty⟩ := h
  exact ⟨nofun, hcnt, hduty⟩

theorem SpindleTimer.Inv.disable {t : SpindleTimer} (h : t.Inv P) :
    SpindleTimer.Inv P { t with en := false, cnt := 0 } := by
  obtain ⟨_, _, hduty⟩ := h
  exact ⟨fun _ => rfl, Nat.two_pow_pos _, hduty⟩

theorem SpindleTimer.Inv.setDuty {t : SpindleTimer} (h : t.Inv P) {v : Nat} (hv : v < 2 ^ P.vstW) :
    SpindleTimer.Inv P { t with duty := v } := by
  obtain ⟨hoff, hcnt, _⟩ := h
  exact ⟨hoff, hcnt, hv⟩

theorem SpindleTimer.Inv.count {t : SpindleTimer} (h : t.Inv P) (he : t.en = true) :
    SpindleTimer.Inv P { t with cnt := (t.cnt + 1) % 2 ^ P.vstW } := by
  obtain ⟨_, _, hduty⟩ := h
  exact ⟨fun hoff => by simp [he] at hoff, Nat.mod_lt _ (Nat.two_pow_pos _), hduty⟩

/-- A duty clamped to the configured range fits (44_spindle_pwm.md R157). -/
theorem CfgRegs.Inv.clamp_lt {c : CfgRegs} (h : c.Inv P) (v : Nat) : clamp v c.pwmOff c.pwmMax < 2 ^ P.vstW := by
  obtain ⟨hoff, hmax, _, _⟩ := h
  have hle : clamp v c.pwmOff c.pwmMax ≤ 2 ^ P.vstW - 1 := clamp_le_of_le (by omega) (by omega)
  omega

theorem CfgRegs.Inv.set {c : CfgRegs} (h : c.Inv P) (k : CfgReg) (v : Nat) :
    CfgRegs.Inv P (c.set k (saturate (cfgWidth P k) v)) := by
  obtain ⟨hoff, hmax, hmin, hdeb⟩ := h
  have hsat := saturate_lt (cfgWidth P k) v
  cases k with
  | pwmOff => exact ⟨hsat, hmax, hmin, hdeb⟩
  | pwmMax => exact ⟨hoff, hsat, hmin, hdeb⟩
  | pwmMin => exact ⟨hoff, hmax, hsat, hdeb⟩
  | debounce => exact ⟨hoff, hmax, hmin, hsat⟩

theorem DebounceTimer.inv_armed {d : Nat} (h1 : 1 ≤ d) (hd : d < 2 ^ P.dtW) :
    DebounceTimer.Inv P { state := .armed, cnt := d, load := d } :=
  ⟨nofun, fun _ => h1, hd, hd⟩

theorem DebounceTimer.Inv.idle {t : DebounceTimer} (h : t.Inv P) :
    DebounceTimer.Inv P { t with state := .idle, cnt := 0 } := by
  obtain ⟨_, _, _, hload⟩ := h
  exact ⟨fun _ => rfl, nofun, Nat.two_pow_pos _, hload⟩

theorem DebounceTimer.Inv.count {t : DebounceTimer} (h : t.Inv P) (ha : t.state = .armed) (hc : 1 < t.cnt) :
    DebounceTimer.Inv P { t with cnt := t.cnt - 1 } := by
  obtain ⟨_, _, hw, hload⟩ := h
  exact ⟨fun hs => by simp [ha] at hs, fun _ => Nat.le_sub_one_of_lt hc, Nat.lt_of_le_of_lt (Nat.sub_le _ _) hw, hload⟩

end Components

end Sys2Proof.Machine

/-! # The invariant of the state: each update, each write, each event -/

namespace Sys2Proof.Machine

section Invariant

variable {s t u : State} {i : Instr} {e : Event}

theorem State.Inv.setPt (h : s.Inv) {x : PulseTimer} (hx : x.Inv s.params) : (s.setPt x).Inv := { h with pt := hx }
theorem State.Inv.setRt (h : s.Inv) {x : ResetTimer} (hx : x.Inv s.params) : (s.setRt x).Inv := { h with rt := hx }
theorem State.Inv.setVst (h : s.Inv) {x : SpindleTimer} (hx : x.Inv s.params) : (s.setVst x).Inv := { h with vst := hx }
theorem State.Inv.setDt (h : s.Inv) {x : DebounceTimer} (hx : x.Inv s.params) : (s.setDt x).Inv := { h with dt := hx }
theorem State.Inv.setCfg (h : s.Inv) {x : CfgRegs} (hx : x.Inv s.params) : (s.setCfg x).Inv := { h with cfg := hx }
theorem State.Inv.setErr (h : s.Inv) (r : ErrRecord) : (s.setErr r).Inv := { h with }
theorem State.Inv.setAnswer (h : s.Inv) (a : Answer) : (s.setAnswer a).Inv := { h with }
theorem State.Inv.setSchedule (h : s.Inv) (es : List Event) : (s.setSchedule es).Inv := { h with }

/-- New bits of one source. -/
theorem State.Inv.setSrc (h : s.Inv) {src : Src} {b : IrqBits} (hb : b.Inv) : (s.setIrq (s.irq.set src b)).Inv :=
  { h with
    irq := fun q => by
      rw [setIrq_irq, irq_get_set]
      split
      · exact hb
      · exact h.irq q }

/-- The pending bit is not constrained. -/
theorem State.Inv.setPend (h : s.Inv) (src : Src) (v : Bool) : (s.setIrq (s.irq.setPend src v)).Inv :=
  h.setSrc (h.irq src)

theorem State.Inv.fire (h : s.Inv) (src : Src) : (fire src s).Inv := (h.setErr _).setPend src true
theorem State.Inv.cancel (h : s.Inv) (src : Src) : (cancel src s).Inv := h.setPend src false
theorem State.Inv.fail (h : s.Inv) (c : Err) (x : Xact) : (fail c x s).Inv := (h.setErr _).setAnswer _

/-- New registers of a location that exists. -/
theorem State.Inv.setPort (h : s.Inv) {loc : Loc} {r : PortRegs} (hl : loc.toNat < s.params.nloc)
    (hr : r.Fits s.params) : (s.setPort loc r).Inv :=
  { h with
    ports := fun l => by
      rw [setPort_port]
      split
      · exact ⟨hr, (h.ports l).2⟩
      · exact h.ports l
    absent := fun l hn => by
      have hne : l ≠ loc := fun hll => Nat.not_le_of_lt hl (hll ▸ hn)
      rw [setPort_port_ne _ _ _ _ hne]
      exact h.absent l hn }

/-- A new level on the pads of a location that exists. -/
theorem State.Inv.setPad (h : s.Inv) {loc : Loc} {v : Port} (hl : loc.toNat < s.params.nloc)
    (hv : portFits s.params v) : (s.setPad loc v).Inv :=
  { h with
    ports := fun l => by
      rw [setPad_pad]
      split
      · exact ⟨(h.ports l).1, hv⟩
      · exact h.ports l
    absent := fun l hn => by
      have hne : l ≠ loc := fun hll => Nat.not_le_of_lt hl (hll ▸ hn)
      rw [setPad_pad_ne _ _ _ _ hne]
      exact h.absent l hn }

theorem State.Inv.writePort (h : s.Inv) {loc : Loc} {r : PortRegs} (hl : loc.toNat < s.params.nloc)
    (hr : r.Fits s.params) : (writePort s loc r).Inv := by
  rcases writePort_cases s loc r with hw | hw
  · exact hw ▸ (h.setPort hl hr).fire .change
  · exact hw ▸ h.setPort hl hr

theorem State.Inv.watch (h : s.Inv) {desc : DescIdx} {ks : List Kind} {ds : List Dir} {d : Descriptor}
    (hd : gpCheck s.params desc ks ds = some d) (b : Bool) : (s.watch d b).Inv := by
  obtain ⟨hl, hm, _⟩ := gpCheck_ok h.params hd
  obtain ⟨⟨hdir, hout, hpue, hpc, hinv⟩, _⟩ := h.ports d.loc
  exact h.setPort hl ⟨hdir, hout, hpue, portFits_maskWrite hpc hm _, hinv⟩

/-- Every write keeps the invariant. -/
theorem Writes.inv (hw : Writes s i u) (h : s.Inv) : u.Inv := by
  cases hw with
  | ptConfigure p _ _ =>
    obtain ⟨hsel, hcmp⟩ := ptDerive_bounds h.params p.toNat
    exact h.setPt (h.pt.configure hsel hcmp)
  | ptStart _ hv => exact h.setPt (h.pt.start hv)
  | ptStartAgain _ => exact h
  | ptStop => exact (h.setPt h.pt.stop).cancel .pulse
  | rtArm d =>
    obtain ⟨_, _, ⟨hrtW, _⟩, _⟩ := h.params.widths
    obtain ⟨h1, hd⟩ := rtDelay_bounds hrtW d
    exact (h.setRt (ResetTimer.inv_armed h1 hd)).setErr _
  | rtDisarm => exact (h.setRt h.rt.idle).cancel .reset
  | vstEnable => exact h.setVst h.vst.enable
  | vstDisable => exact h.setVst h.vst.disable
  | vstSetDuty v => exact h.setVst (h.vst.setDuty (h.cfg.clamp_lt v.toNat))
  | dtArm _ =>
    obtain ⟨_, _, _, _, _, ⟨hdtW, _⟩, _⟩ := h.params.widths
    obtain ⟨h1, hd⟩ := dtDelay_bounds hdtW
    exact h.setDt (DebounceTimer.inv_armed h1 hd)
  | dtArmAgain _ => exact h
  | dtDisarm => exact (h.setDt h.dt.idle).cancel .debounce
  | gpInit desc d hd =>
    obtain ⟨hl, hm, _⟩ := gpCheck_ok h.params hd
    obtain ⟨⟨hdir, hout, hpue, hpc, hinv⟩, _⟩ := h.ports d.loc
    exact h.writePort hl ⟨portFits_maskWrite hdir hm _, hout, hpue, hpc, hinv⟩
  | gpWrite desc val d hd =>
    obtain ⟨hl, hm, _⟩ := gpCheck_ok h.params hd
    obtain ⟨⟨hdir, hout, hpue, hpc, hinv⟩, _⟩ := h.ports d.loc
    exact h.writePort hl ⟨hdir, portFits_maskMerge hout hm, hpue, hpc, hinv⟩
  | gpWritePin desc val d hd =>
    obtain ⟨hl, _, hpin⟩ := gpCheck_ok h.params hd
    obtain ⟨_, _, hkind, _⟩ := gpCheck_some hd
    obtain ⟨⟨hdir, hout, hpue, hpc, hinv⟩, _⟩ := h.ports d.loc
    exact h.writePort hl ⟨hdir, portFits_setBit hout _ (hpin (List.mem_singleton.mp hkind)), hpue, hpc, hinv⟩
  | gpSetPullup desc val d hd _ =>
    obtain ⟨hl, hm, _⟩ := gpCheck_ok h.params hd
    obtain ⟨⟨hdir, hout, hpue, hpc, hinv⟩, _⟩ := h.ports d.loc
    exact h.setPort hl ⟨hdir, hout, portFits_maskWrite hpue hm _, hpc, hinv⟩
  | gpSetPullupOutput _ _ _ _ _ => exact h
  | gpChangeInt desc val d hd _ => exact h.watch hd _
  | gpChangeIntLast desc val d hd _ => exact (h.watch hd _).cancel .change
  | cbRegister src handle _ => exact h.setSrc ⟨fun _ => rfl, nofun⟩
  | irqTake src hline =>
    have hreg : (s.irq.get src).reg = true := by
      simp only [IrqBits.line, Bool.and_eq_true] at hline
      obtain ⟨⟨_, hreg⟩, _⟩ := hline
      exact hreg
    exact h.setSrc ⟨fun _ => hreg, (h.irq src).2⟩
  | irqDone src _ => exact h.setSrc ⟨nofun, (h.irq src).2⟩
  | cfgSet k v => exact h.setCfg (h.cfg.set k v.toNat)
  | invSet loc m hl =>
    obtain ⟨⟨hdir, hout, hpue, hpc, _⟩, _⟩ := h.ports loc
    exact h.setPort hl ⟨hdir, hout, hpue, hpc, portFits_portBits m⟩

theorem State.Inv.ptTick (h : s.Inv) : (ptTick s).Inv := by
  obtain ⟨_, hrun, _⟩ := h.pt
  rcases ptTick_cases s with ⟨_, ht⟩ | ⟨hr, hd, ht⟩ | ⟨hr, _, hc, ht⟩ | ⟨⟨hr, _, _⟩, ht⟩ <;> rw [ht]
  · exact h
  · exact h.setPt (h.pt.count hr hd (hrun hr).1)
  · exact h.setPt (h.pt.count hr (Nat.two_pow_pos _) hc)
  · exact (h.setPt (h.pt.reload hr)).fire .pulse

theorem State.Inv.rtTick (h : s.Inv) : (rtTick s).Inv := by
  obtain ⟨_, harm, _⟩ := h.rt
  rcases rtTick_cases s with ⟨_, ht⟩ | ⟨ha, hd, ht⟩ | ⟨ha, _, hc, ht⟩ | ⟨_, ht⟩ <;> rw [ht]
  · exact h
  · exact h.setRt (h.rt.count ha hd (harm ha) (Nat.le_refl _))
  · exact h.setRt (h.rt.count ha (Nat.two_pow_pos _) (Nat.le_sub_one_of_lt hc) (Nat.sub_le _ _))
  · exact (h.setRt h.rt.idle).fire .reset

theorem State.Inv.dtTick (h : s.Inv) : (dtTick s).Inv := by
  rcases dtTick_cases s with ⟨_, ht⟩ | ⟨ha, hc, ht⟩ | ⟨_, ht⟩ <;> rw [ht]
  · exact h
  · exact h.setDt (h.dt.count ha hc)
  · exact (h.setDt h.dt.idle).fire .debounce

theorem State.Inv.vstTick (h : s.Inv) : (vstTick s).Inv := by
  rcases vstTick_cases s with ⟨he, ht⟩ | ⟨_, ht⟩ <;> rw [ht]
  · exact h.setVst (h.vst.count he)
  · exact h

theorem State.Inv.padEvent (h : s.Inv) (loc : Loc) (v : BitVec 16) : (padEvent loc v s).Inv := by
  rcases padEvent_cases s loc v with ⟨_, ht⟩ | ⟨hl, ht | ht⟩ <;> rw [ht]
  · exact h
  · exact (h.setPad hl (portFits_portBits v)).fire .change
  · exact h.setPad hl (portFits_portBits v)

/-- The registers of a location after reset (10_state.md R26): zero, with the invert mask of the profile. -/
theorem resetWith_port (p : Params) (pads : Vector Port 8) (es : List Event) (loc : Loc) :
    (State.resetWith p pads es).port loc =
      { dir := 0, out := 0, pue := 0, pcmsk := 0, inv := p.profile.inv.get loc.toFin } := by
  simp only [State.resetWith, State.port, Vector.getElem_map]
  rfl

/-- The interrupt bits of a source after reset (10_state.md R26). -/
theorem resetWith_irq (p : Params) (pads : Vector Port 8) (es : List Event) (src : Src) :
    (State.resetWith p pads es).irq.get src = { pend := false, inserv := false, reg := false, cbvec := 0 } := by
  cases src <;> rfl

/-- A machine after reset has the invariant when its parameters are in range and its pads fit. -/
theorem resetWith_inv {p : Params} {pads : Vector Port 8} (es : List Event) (hp : p.Ok)
    (hpads : ∀ l : Fin 8, portFits p (pads.get l) ∧ (p.nloc ≤ l.val → pads.get l = 0)) :
    (State.resetWith p pads es).Inv := by
  obtain ⟨⟨hlen, _⟩, _, _⟩ := hp.shifts
  obtain ⟨_, _, _, _, hinv, hoff, hmax, hmin, hdeb⟩ := hp.profile
  have hpos := Nat.two_pow_pos
  exact
    { params := hp
      pt := ⟨fun _ => ⟨rfl, rfl, rfl⟩, nofun, nofun, hlen, hlen, hpos _, hpos _⟩
      rt := ⟨fun _ => ⟨rfl, rfl⟩, nofun, hpos _, hpos _, hpos _⟩
      vst := ⟨fun _ => rfl, hpos _, hpos _⟩
      dt := ⟨fun _ => rfl, nofun, hpos _, hpos _⟩
      cfg := ⟨hoff, hmax, hmin, hdeb⟩
      ports := fun loc => by
        rw [resetWith_port]
        obtain ⟨hfit, _⟩ := hinv loc.toFin
        exact ⟨⟨portFits_zero, portFits_zero, portFits_zero, portFits_zero, portFits_of_toNat_lt hfit⟩,
          (hpads loc.toFin).1⟩
      absent := fun loc hn => by
        rw [resetWith_port, (hinv loc.toFin).2 hn]
        exact ⟨rfl, (hpads loc.toFin).2 hn⟩
      irq := fun src => by
        rw [resetWith_irq]
        exact ⟨nofun, fun _ => rfl⟩ }

theorem State.Inv.resetEvent (h : s.Inv) : (resetEvent s).Inv :=
  resetWith_inv s.schedule h.params fun l =>
    ⟨(h.ports (BitVec.ofFin l)).2, fun hn => (h.absent (BitVec.ofFin l) hn).2⟩

/-- Every event keeps the invariant. -/
theorem Happens.inv (he : Happens s e t) (h : s.Inv) : t.Inv := by
  cases he with
  | fails x y c => exact h.fail c y
  | reads x v => exact h.setAnswer _
  | writes x _ hw => exact (hw.inv h).setAnswer _
  | tickT => exact h.ptTick.rtTick
  | tickV => exact h.vstTick
  | tickD => exact h.dtTick
  | pad loc v => exact h.padEvent loc v
  | reset => exact h.resetEvent

end Invariant

/-- Settles O11: every event keeps the invariant, and so does a step with no event to come. -/
theorem stepKeepsInvariant : Obligations.StepKeepsInvariant := by
  unfold Obligations.StepKeepsInvariant
  intro s t h hstep
  exact step_induct (fun _ es hs => hs.setSchedule es) (fun _ _ _ hs he => he.inv hs) h hstep

/-- Settles O12. -/
theorem resetEstablishesInvariant : Obligations.ResetEstablishesInvariant := by
  unfold Obligations.ResetEstablishesInvariant
  intro p pads es hp hpads
  exact resetWith_inv es hp hpads

/-- Settles O13: the default parameters are in range and every pad is low. -/
theorem resetStateInvariant : Obligations.ResetStateInvariant := by
  unfold Obligations.ResetStateInvariant
  have hp : Params.default.Ok := ⟨by decide, by decide, by decide⟩
  exact resetWith_inv [] hp (by decide)

end Sys2Proof.Machine

/-! # Sticky bits (10_state.md R22, R25) -/

namespace Sys2Proof.Machine

section Sticky

variable {s t u : State} {i : Instr} {e : Event}

/-- Every sticky bit of the first record is set in the second. -/
def ErrRecord.Below (r r' : ErrRecord) : Prop := ∀ n, r.status.getLsbD n = true → r'.status.getLsbD n = true

theorem ErrRecord.below_refl (r : ErrRecord) : r.Below r := fun _ h => h

theorem ErrRecord.Below.trans {r r' r'' : ErrRecord} (h : r.Below r') (h' : r'.Below r'') : r.Below r'' :=
  fun n hn => h' n (h n hn)

theorem ErrRecord.below_of_and_eq {r r' : ErrRecord} (h : r.status &&& r'.status = r.status) : r.Below r' := by
  intro n hn
  rw [← h, BitVec.getLsbD_and, Bool.and_eq_true] at hn
  exact hn.2

theorem ErrRecord.below_stickIf (r : ErrRecord) (c : Bool) (n : Nat) : r.Below (r.stickIf c n) :=
  below_of_and_eq (stickIf_mono r c n)

theorem ErrRecord.below_record (r : ErrRecord) (c : Err) (x : Xact) : r.Below (r.record c x) :=
  below_of_and_eq (stick_mono r (errSticky c))

theorem fire_below (src : Src) (s : State) : s.err.Below (fire src s).err :=
  (ErrRecord.below_stickIf _ _ _).trans (ErrRecord.below_stickIf _ _ _)

theorem writePort_below (s : State) (loc : Loc) (r : PortRegs) : s.err.Below (writePort s loc r).err := by
  rcases writePort_cases s loc r with h | h <;> rw [h]
  · exact fire_below .change (s.setPort loc r)
  · exact ErrRecord.below_refl _

theorem ptTick_below (s : State) : s.err.Below (ptTick s).err := by
  rcases ptTick_cases s with ⟨_, h⟩ | ⟨_, _, h⟩ | ⟨_, _, _, h⟩ | ⟨_, h⟩ <;> rw [h]
  · exact ErrRecord.below_refl _
  · exact ErrRecord.below_refl _
  · exact ErrRecord.below_refl _
  · exact fire_below .pulse (s.setPt _)

theorem rtTick_below (s : State) : s.err.Below (rtTick s).err := by
  rcases rtTick_cases s with ⟨_, h⟩ | ⟨_, _, h⟩ | ⟨_, _, _, h⟩ | ⟨_, h⟩ <;> rw [h]
  · exact ErrRecord.below_refl _
  · exact ErrRecord.below_refl _
  · exact ErrRecord.below_refl _
  · exact fire_below .reset (s.setRt _)

theorem dtTick_below (s : State) : s.err.Below (dtTick s).err := by
  rcases dtTick_cases s with ⟨_, h⟩ | ⟨_, _, h⟩ | ⟨_, h⟩ <;> rw [h]
  · exact ErrRecord.below_refl _
  · exact ErrRecord.below_refl _
  · exact fire_below .debounce (s.setDt _)

theorem vstTick_err (s : State) : (vstTick s).err = s.err := by
  rcases vstTick_cases s with ⟨_, h⟩ | ⟨_, h⟩ <;> rw [h]
  exact setVst_err s _

theorem padEvent_below (s : State) (loc : Loc) (v : BitVec 16) : s.err.Below (padEvent loc v s).err := by
  rcases padEvent_cases s loc v with ⟨_, h⟩ | ⟨_, h | h⟩ <;> rw [h]
  · exact ErrRecord.below_refl _
  · exact fire_below .change (s.setPad loc _)
  · exact ErrRecord.below_refl _

/-- Of the writes that answer `OK`, RT.ARM and the port writes may set a sticky bit; none clears one. -/
theorem Writes.below (hw : Writes s i u) : s.err.Below u.err := by
  cases hw with
  | rtArm d => exact ErrRecord.below_stickIf _ _ _
  | gpInit => exact writePort_below _ _ _
  | gpWrite => exact writePort_below _ _ _
  | gpWritePin => exact writePort_below _ _ _
  | _ => exact ErrRecord.below_refl _

/-- Every event but a reset keeps the sticky bits. -/
theorem Happens.below (he : Happens s e t) (hr : e ≠ .reset) : s.err.Below t.err := by
  cases he with
  | fails x y c => exact ErrRecord.below_record _ _ _
  | reads x v => exact ErrRecord.below_refl _
  | writes x _ hw => exact hw.below
  | tickT => exact (ptTick_below s).trans (rtTick_below _)
  | tickV => exact vstTick_err s ▸ ErrRecord.below_refl _
  | tickD => exact dtTick_below s
  | pad loc v => exact padEvent_below s loc v
  | reset => exact absurd rfl hr

end Sticky

/-- Settles O16: every event but a reset keeps the sticky bits, and so does a step with no event to come. -/
theorem stickyBitsOnlyClearedByReset : Obligations.StickyBitsOnlyClearedByReset := by
  unfold Obligations.StickyBitsOnlyClearedByReset
  intro s t hstep hhead n hn
  cases hsc : s.schedule with
  | nil => exact step_idle hsc hstep ▸ hn
  | cons e es =>
    have hne : e ≠ .reset := fun hr => hhead (by rw [hsc, hr, List.head?_cons])
    exact (step_happens hsc hstep).below hne n hn

end Sys2Proof.Machine

/-! # Ownership of the pieces of the state (10_state.md R27) -/

namespace Sys2Proof.Machine

section Ownership

variable {s t u : State} {i : Instr} {e : Event} {loc l : Loc} {r : PortRegs} {src : Src}

/-- A write of the registers of one location that keeps a field there keeps that field everywhere. -/
theorem setPort_field {α : Type} (f : PortRegs → α) (h : f r = f (s.port loc)) (l : Loc) :
    f ((s.setPort loc r).port l) = f (s.port l) := by
  rw [setPort_port]
  split
  next hl => rw [hl, h]
  next => rfl

@[simp] theorem setPort_dir (h : r.dir = (s.port loc).dir) : ((s.setPort loc r).port l).dir = (s.port l).dir :=
  setPort_field PortRegs.dir h l
@[simp] theorem setPort_out (h : r.out = (s.port loc).out) : ((s.setPort loc r).port l).out = (s.port l).out :=
  setPort_field PortRegs.out h l
@[simp] theorem setPort_pue (h : r.pue = (s.port loc).pue) : ((s.setPort loc r).port l).pue = (s.port l).pue :=
  setPort_field PortRegs.pue h l
@[simp] theorem setPort_pcmsk (h : r.pcmsk = (s.port loc).pcmsk) :
    ((s.setPort loc r).port l).pcmsk = (s.port l).pcmsk :=
  setPort_field PortRegs.pcmsk h l
@[simp] theorem setPort_inv (h : r.inv = (s.port loc).inv) : ((s.setPort loc r).port l).inv = (s.port l).inv :=
  setPort_field PortRegs.inv h l

/-- The callback registration of a source (10_state.md R21): whether there is one, and its handle. -/
def IrqBits.callback (b : IrqBits) : Bool × Word := (b.reg, b.cbvec)

/-- New bits of a source with the same registration keep every registration. -/
theorem set_callback {q : Irq} {b : IrqBits} (h : b.callback = (q.get src).callback) (src' : Src) :
    ((q.set src b).get src').callback = (q.get src').callback := by
  rw [irq_get_set]
  split
  next hq => rw [hq, h]
  next => rfl

theorem fire_callback (s : State) (src src' : Src) :
    ((fire src s).irq.get src').callback = (s.irq.get src').callback :=
  set_callback (b := { s.irq.get src with pend := true }) rfl src'

theorem cancel_callback (s : State) (src src' : Src) :
    ((cancel src s).irq.get src').callback = (s.irq.get src').callback :=
  set_callback (b := { s.irq.get src with pend := false }) rfl src'

theorem takeIrq_callback (s : State) (src src' : Src) :
    ((takeIrq src s).irq.get src').callback = (s.irq.get src').callback :=
  set_callback (b := { s.irq.get src with pend := false, inserv := true }) rfl src'

theorem doneIrq_callback (s : State) (src src' : Src) :
    ((doneIrq src s).irq.get src').callback = (s.irq.get src').callback :=
  set_callback (b := { s.irq.get src with inserv := false }) rfl src'

theorem writePort_callback (s : State) (loc : Loc) (r : PortRegs) (src' : Src) :
    ((writePort s loc r).irq.get src').callback = (s.irq.get src').callback := by
  rcases writePort_cases s loc r with h | h <;> rw [h]
  · exact fire_callback _ _ _
  · rfl

/-- The registers that only transactions write: the configuration, the ports and the callback registrations. -/
structure Registers where
  cfg : CfgRegs
  ports : Vector PortRegs 8
  callback : Src → Bool × Word

def State.registers (s : State) : Registers :=
  { cfg := s.cfg, ports := s.ports, callback := fun src => (s.irq.get src).callback }

theorem fire_registers (src : Src) (s : State) : (fire src s).registers = s.registers := by
  simp only [State.registers, fire_cfg, fire_ports, fire_callback]

/-! What each tick and the pad event leave alone. -/

theorem ptTick_frame (s : State) : (ptTick s).vst = s.vst ∧ (ptTick s).dt = s.dt ∧ (ptTick s).pads = s.pads ∧
    (ptTick s).registers = s.registers := by
  rcases ptTick_cases s with ⟨_, h⟩ | ⟨_, _, h⟩ | ⟨_, _, _, h⟩ | ⟨_, h⟩ <;> rw [h]
  · exact ⟨rfl, rfl, rfl, rfl⟩
  · exact ⟨rfl, rfl, rfl, rfl⟩
  · exact ⟨rfl, rfl, rfl, rfl⟩
  · exact ⟨rfl, rfl, rfl, fire_registers _ _⟩

theorem rtTick_frame (s : State) : (rtTick s).vst = s.vst ∧ (rtTick s).dt = s.dt ∧ (rtTick s).pads = s.pads ∧
    (rtTick s).registers = s.registers := by
  rcases rtTick_cases s with ⟨_, h⟩ | ⟨_, _, h⟩ | ⟨_, _, _, h⟩ | ⟨_, h⟩ <;> rw [h]
  · exact ⟨rfl, rfl, rfl, rfl⟩
  · exact ⟨rfl, rfl, rfl, rfl⟩
  · exact ⟨rfl, rfl, rfl, rfl⟩
  · exact ⟨rfl, rfl, rfl, fire_registers _ _⟩

theorem tickT_frame (s : State) : (tickT s).vst = s.vst ∧ (tickT s).dt = s.dt ∧ (tickT s).pads = s.pads ∧
    (tickT s).registers = s.registers := by
  obtain ⟨hvst, hdt, hpads, hregs⟩ := ptTick_frame s
  obtain ⟨hvst', hdt', hpads', hregs'⟩ := rtTick_frame (ptTick s)
  exact ⟨hvst'.trans hvst, hdt'.trans hdt, hpads'.trans hpads, hregs'.trans hregs⟩

theorem tickV_frame (s : State) : (tickV s).pt = s.pt ∧ (tickV s).rt = s.rt ∧ (tickV s).dt = s.dt ∧
    (tickV s).pads = s.pads ∧ (tickV s).registers = s.registers := by
  rcases vstTick_cases s with ⟨_, h⟩ | ⟨_, h⟩ <;> rw [tickV, h]
  · exact ⟨rfl, rfl, rfl, rfl, rfl⟩
  · exact ⟨rfl, rfl, rfl, rfl, rfl⟩

theorem tickD_frame (s : State) : (tickD s).pt = s.pt ∧ (tickD s).rt = s.rt ∧ (tickD s).vst = s.vst ∧
    (tickD s).pads = s.pads ∧ (tickD s).registers = s.registers := by
  rcases dtTick_cases s with ⟨_, h⟩ | ⟨_, _, h⟩ | ⟨_, h⟩ <;> rw [tickD, h]
  · exact ⟨rfl, rfl, rfl, rfl, rfl⟩
  · exact ⟨rfl, rfl, rfl, rfl, rfl⟩
  · exact ⟨rfl, rfl, rfl, rfl, fire_registers _ _⟩

theorem padEvent_frame (s : State) (loc : Loc) (v : BitVec 16) : (padEvent loc v s).pt = s.pt ∧
    (padEvent loc v s).rt = s.rt ∧ (padEvent loc v s).vst = s.vst ∧ (padEvent loc v s).dt = s.dt ∧
    (padEvent loc v s).registers = s.registers := by
  rcases padEvent_cases s loc v with ⟨_, h⟩ | ⟨_, h | h⟩ <;> rw [h]
  · exact ⟨rfl, rfl, rfl, rfl, rfl⟩
  · exact ⟨rfl, rfl, rfl, rfl, fire_registers _ _⟩
  · exact ⟨rfl, rfl, rfl, rfl, rfl⟩

/-- An event that is no write changes a timer only as that timer's tick, the pads only as a pad event, and no
register. -/
structure OwnTickOnly (e : Event) (s t : State) : Prop where
  pt : t.pt ≠ s.pt → e = .tickT
  rt : t.rt ≠ s.rt → e = .tickT
  vst : t.vst ≠ s.vst → e = .tickV
  dt : t.dt ≠ s.dt → e = .tickD
  pads : t.pads ≠ s.pads → ∃ loc v, e = .pad loc v
  registers : t.registers = s.registers

/-- A failing transaction and a read change none of these pieces (20_memory.md R55, 60_exceptions.md R205). -/
theorem OwnTickOnly.of_eq (hpt : t.pt = s.pt) (hrt : t.rt = s.rt) (hvst : t.vst = s.vst) (hdt : t.dt = s.dt)
    (hpads : t.pads = s.pads) (hregs : t.registers = s.registers) : OwnTickOnly e s t :=
  ⟨fun h => absurd hpt h, fun h => absurd hrt h, fun h => absurd hvst h, fun h => absurd hdt h,
    fun h => absurd hpads h, hregs⟩

/-- Every event but a reset is a write that answers `OK` or changes only what its own clock or pad drives. -/
theorem Happens.write_or_tick (he : Happens s e t) (hr : e ≠ .reset) :
    (∃ i u, e.instr? = some i ∧ Writes s i u ∧ t = u.setAnswer ⟨.ok, 0⟩) ∨ OwnTickOnly e s t := by
  cases he with
  | fails x y c => exact .inr (.of_eq rfl rfl rfl rfl rfl rfl)
  | reads x v => exact .inr (.of_eq rfl rfl rfl rfl rfl rfl)
  | writes x hi hw => exact .inl ⟨_, _, hi, hw, rfl⟩
  | tickT =>
    obtain ⟨hvst, hdt, hpads, hregs⟩ := tickT_frame s
    exact .inr ⟨fun _ => rfl, fun _ => rfl, fun h => absurd hvst h, fun h => absurd hdt h, fun h => absurd hpads h, hregs⟩
  | tickV =>
    obtain ⟨hpt, hrt, hdt, hpads, hregs⟩ := tickV_frame s
    exact .inr ⟨fun h => absurd hpt h, fun h => absurd hrt h, fun _ => rfl, fun h => absurd hdt h,
      fun h => absurd hpads h, hregs⟩
  | tickD =>
    obtain ⟨hpt, hrt, hvst, hpads, hregs⟩ := tickD_frame s
    exact .inr ⟨fun h => absurd hpt h, fun h => absurd hrt h, fun h => absurd hvst h, fun _ => rfl,
      fun h => absurd hpads h, hregs⟩
  | pad loc v =>
    obtain ⟨hpt, hrt, hvst, hdt, hregs⟩ := padEvent_frame s loc v
    exact .inr ⟨fun h => absurd hpt h, fun h => absurd hrt h, fun h => absurd hvst h, fun h => absurd hdt h,
      fun _ => ⟨loc, v, rfl⟩, hregs⟩
  | reset => exact absurd rfl hr

theorem OwnTickOnly.cfg (h : OwnTickOnly e s t) : t.cfg = s.cfg := congrArg Registers.cfg h.registers

theorem OwnTickOnly.port (h : OwnTickOnly e s t) (loc : Loc) : t.port loc = s.port loc := by
  have hports : t.ports = s.ports := congrArg Registers.ports h.registers
  simp only [State.port, hports]

theorem OwnTickOnly.callback (h : OwnTickOnly e s t) (src : Src) :
    (t.irq.get src).callback = (s.irq.get src).callback :=
  congrFun (congrArg Registers.callback h.registers) src

/-! Which writes that answer `OK` change a piece: the owning operations are named, every other one leaves it. -/

theorem Writes.pt_owner (h : Writes s i u) (hc : u.pt ≠ s.pt) : i = .ptStart ∨ i = .ptStop ∨ ∃ p, i = .ptConfigure p := by
  cases h with
  | ptConfigure p => exact .inr (.inr ⟨p, rfl⟩)
  | ptStart => exact .inl rfl
  | ptStop => exact .inr (.inl rfl)
  | _ => exact absurd (by simp) hc

theorem Writes.rt_owner (h : Writes s i u) (hc : u.rt ≠ s.rt) : i = .rtDisarm ∨ ∃ d, i = .rtArm d := by
  cases h with
  | rtArm d => exact .inr ⟨d, rfl⟩
  | rtDisarm => exact .inl rfl
  | _ => exact absurd (by simp) hc

theorem Writes.vst_owner (h : Writes s i u) (hc : u.vst ≠ s.vst) :
    (∃ b, i = .vstEnable b) ∨ ∃ v, i = .vstSetDuty v := by
  cases h with
  | vstEnable => exact .inl ⟨true, rfl⟩
  | vstDisable => exact .inl ⟨false, rfl⟩
  | vstSetDuty v => exact .inr ⟨v, rfl⟩
  | _ => exact absurd (by simp) hc

theorem Writes.dt_owner (h : Writes s i u) (hc : u.dt ≠ s.dt) : i = .dtArm ∨ i = .dtDisarm := by
  cases h with
  | dtArm => exact .inl rfl
  | dtDisarm => exact .inr rfl
  | _ => exact absurd (by simp) hc

/-- No transaction changes the pads. -/
theorem Writes.pads_eq (h : Writes s i u) : u.pads = s.pads := by
  cases h <;> simp

theorem Writes.cfg_owner (h : Writes s i u) (hc : u.cfg ≠ s.cfg) : ∃ k v, i = .cfgSet k v := by
  cases h with
  | cfgSet k v => exact ⟨k, v, rfl⟩
  | _ => exact absurd (by simp) hc

theorem Writes.inv_owner (h : Writes s i u) (hc : (u.port l).inv ≠ (s.port l).inv) : ∃ m, i = .invSet l m := by
  cases h with
  | invSet loc m hloc =>
    by_cases hl : l = loc
    · exact ⟨m, by rw [hl]⟩
    · exact absurd (by rw [setPort_port_ne _ _ _ _ hl]) hc
  | _ => exact absurd (by simp) hc

theorem Writes.dir_owner (h : Writes s i u) (hc : (u.port l).dir ≠ (s.port l).dir) : ∃ desc, i = .gpInit desc := by
  cases h with
  | gpInit desc => exact ⟨desc, rfl⟩
  | _ => exact absurd (by simp) hc

theorem Writes.out_owner (h : Writes s i u) (hc : (u.port l).out ≠ (s.port l).out) :
    ∃ desc v, i = .gpWrite desc v ∨ i = .gpWritePin desc v := by
  cases h with
  | gpWrite desc val => exact ⟨desc, val, .inl rfl⟩
  | gpWritePin desc val => exact ⟨desc, val, .inr rfl⟩
  | _ => exact absurd (by simp) hc

theorem Writes.pue_owner (h : Writes s i u) (hc : (u.port l).pue ≠ (s.port l).pue) :
    ∃ desc v, i = .gpSetPullup desc v := by
  cases h with
  | gpSetPullup desc val => exact ⟨desc, val, rfl⟩
  | _ => exact absurd (by simp) hc

theorem Writes.pcmsk_owner (h : Writes s i u) (hc : (u.port l).pcmsk ≠ (s.port l).pcmsk) :
    ∃ desc v, i = .gpChangeInt desc v := by
  cases h with
  | gpChangeInt desc val => exact ⟨desc, val, rfl⟩
  | gpChangeIntLast desc val => exact ⟨desc, val, rfl⟩
  | _ => exact absurd (by simp) hc

theorem Writes.callback_owner (h : Writes s i u) (hc : (u.irq.get src).callback ≠ (s.irq.get src).callback) :
    ∃ handle, i = .cbRegister src handle := by
  cases h with
  | cbRegister src' handle =>
    by_cases hs : src = src'
    · exact ⟨handle, by rw [hs]⟩
    · exact absurd (by simp [hs]) hc
  | ptStop => exact absurd (cancel_callback _ _ _) hc
  | rtDisarm => exact absurd (cancel_callback _ _ _) hc
  | dtDisarm => exact absurd (cancel_callback _ _ _) hc
  | gpChangeIntLast => exact absurd (cancel_callback _ _ _) hc
  | gpInit => exact absurd (writePort_callback _ _ _ _) hc
  | gpWrite => exact absurd (writePort_callback _ _ _ _) hc
  | gpWritePin => exact absurd (writePort_callback _ _ _ _) hc
  | irqTake => exact absurd (takeIrq_callback _ _ _) hc
  | irqDone => exact absurd (doneIrq_callback _ _ _) hc
  | _ => exact absurd rfl hc

/-- A change of one half of a registration is a change of the registration. -/
theorem IrqBits.callback_ne {b b' : IrqBits} (h : b'.reg ≠ b.reg ∨ b'.cbvec ≠ b.cbvec) : b'.callback ≠ b.callback := by
  intro heq
  obtain ⟨hreg, hvec⟩ := Prod.mk.inj heq
  exact h.elim (absurd hreg) (absurd hvec)

end Ownership

/-- Settles O18: an operation changes the pieces its owner lemma names; a tick and a pad event only their own. -/
theorem stateIsOwned : Obligations.StateIsOwned := by
  unfold Obligations.StateIsOwned
  intro s t e es hs hne hstep
  rcases (step_happens hs hstep).write_or_tick hne with ⟨i, u, hi, hw, rfl⟩ | h
  · rw [hi]
    simp only [Option.some.injEq]
    exact ⟨fun hc => .inr (hw.pt_owner hc), fun hc => .inr (hw.rt_owner hc), fun hc => .inr (hw.vst_owner hc),
      fun hc => .inr (hw.dt_owner hc), fun hc => absurd hw.pads_eq hc, hw.cfg_owner, fun _ => hw.inv_owner,
      fun _ => hw.dir_owner, fun _ => hw.out_owner, fun _ => hw.pue_owner, fun _ => hw.pcmsk_owner,
      fun _ hc => hw.callback_owner (IrqBits.callback_ne hc)⟩
  · exact ⟨fun hc => .inl (h.pt hc), fun hc => .inl (h.rt hc), fun hc => .inl (h.vst hc), fun hc => .inl (h.dt hc), h.pads,
      fun hc => absurd h.cfg hc, fun loc hc => absurd (congrArg PortRegs.inv (h.port loc)) hc,
      fun loc hc => absurd (congrArg PortRegs.dir (h.port loc)) hc,
      fun loc hc => absurd (congrArg PortRegs.out (h.port loc)) hc,
      fun loc hc => absurd (congrArg PortRegs.pue (h.port loc)) hc,
      fun loc hc => absurd (congrArg PortRegs.pcmsk (h.port loc)) hc,
      fun src hc => absurd (h.callback src) (IrqBits.callback_ne hc)⟩

end Sys2Proof.Machine

/-! # The pads (10_state.md R17, 44_spindle_pwm.md R161) -/

namespace Sys2Proof.Machine

/-- The bit of one pin in a port pattern. -/
theorem pinMask_bit (k : BitVec 4) {b : Nat} (hb : b < 16) :
    (1#16 <<< k.toNat).getLsbD b = decide (b = k.toNat) := by
  rw [BitVec.getLsbD_shiftLeft, BitVec.getLsbD_one]
  simp only [hb, decide_true, Bool.true_and]
  by_cases h : b = k.toNat
  · simp [h]
  · simp [h]; omega

/-- The pin the PWM output has taken over: that of the descriptor of `PROFILE.VST_PIN`, while enabled. -/
theorem pwmPins_bit {s : State} {d : Descriptor} (hd : s.params.profile.desc[s.params.profile.vstPin]? = some d)
    (loc : Loc) {b : Nat} (hb : b < 16) :
    (s.pwmPins loc).getLsbD b = decide (s.vst.en = true ∧ loc = d.loc ∧ b = d.bitpos.toNat) := by
  simp only [State.pwmPins, hd]
  by_cases h : s.vst.en = true ∧ d.loc = loc
  · obtain ⟨he, hl⟩ := h
    simp [he, hl, pinMask_bit _ hb]
  · have hout : ¬(s.vst.en = true ∧ loc = d.loc ∧ b = d.bitpos.toNat) := fun ⟨he, hl, _⟩ => h ⟨he, hl.symm⟩
    rw [if_neg (by simpa using h), decide_eq_false hout]
    exact BitVec.getLsbD_zero

/-- A bit of the pad drive value: the PWM output on the pins it has taken over, the latch elsewhere. -/
theorem padout_bit (s : State) (loc : Loc) {b : Nat} (hb : b < 16) : (s.padout loc).getLsbD b =
    if (s.pwmPins loc).getLsbD b = true then s.vst.pwmOut else (s.port loc).out.getLsbD b := by
  simp only [State.padout, BitVec.getLsbD_or, BitVec.getLsbD_and, BitVec.getLsbD_not, hb]
  cases hp : (s.pwmPins loc).getLsbD b <;> cases s.vst.pwmOut <;> simp [hp]

/-- Settles O34. -/
theorem pwmPadOverride : Obligations.PwmPadOverride := by
  unfold Obligations.PwmPadOverride
  intro s d hd loc b hb
  refine ⟨?_, rfl⟩
  rw [padout_bit s loc hb, pwmPins_bit hd loc hb]
  simp only [decide_eq_true_eq]

end Sys2Proof.Machine

/-! # What a read shows (10_state.md R24) -/

namespace Sys2Proof.Machine

/-- Two operations answer alike. -/
def SameAnswer (a b : Out) : Prop := ∃ t t', a = .next t ∧ b = .next t' ∧ t.answer = t'.answer

section Reads

variable {s s' : State} {i : Instr}

/-- Two states that no read tells apart: equal but for the timers, and these show the same status words. -/
structure State.ShowsSame (s s' : State) : Prop where
  params : s'.params = s.params
  ports : s'.ports = s.ports
  pads : s'.pads = s.pads
  cfg : s'.cfg = s.cfg
  irq : s'.irq = s.irq
  err : s'.err = s.err
  vstEn : s'.vst.en = s.vst.en
  ptWord : ptStatusWord s'.pt = ptStatusWord s.pt
  rtWord : rtStatusWord s'.rt = rtStatusWord s.rt
  vstWord : vstStatusWord s'.vst = vstStatusWord s.vst
  dtWord : dtStatusWord s'.dt = dtStatusWord s.dt

theorem State.ShowsSame.port (h : s.ShowsSame s') (loc : Loc) : s'.port loc = s.port loc := by
  simp only [State.port, h.ports]

theorem State.ShowsSame.pinlvl (h : s.ShowsSame s') (loc : Loc) : s'.pinlvl loc = s.pinlvl loc := by
  simp only [State.pinlvl, State.pad, h.port, h.pads]

theorem State.ShowsSame.gpReadWord (h : s.ShowsSame s') (d : Descriptor) : gpReadWord s' d = gpReadWord s d := by
  simp only [Machine.gpReadWord, h.port, h.pinlvl]

theorem sameAnswer_okRead {v v' : Word} (hv : v' = v) : SameAnswer (okRead v s) (okRead v' s') :=
  hv ▸ ⟨_, _, rfl, rfl, rfl⟩

theorem sameAnswer_raise (c : Err) : SameAnswer (raise c i s) (raise c i s') := ⟨_, _, rfl, rfl, rfl⟩

theorem State.ShowsSame.readLoc (h : s.ShowsSame s') (loc : Loc) {v v' : Port} (hv : v' = v) :
    SameAnswer (readLoc i loc v s) (readLoc i loc v' s') := by
  unfold Machine.readLoc
  rw [h.params, hv]
  split
  · exact sameAnswer_raise _
  · exact sameAnswer_okRead rfl

theorem State.ShowsSame.readWindow (h : s.ShowsSame s') (desc : DescIdx) (word : Descriptor → Word) :
    SameAnswer (readWindow i desc word s) (readWindow i desc word s') := by
  unfold Machine.readWindow
  rw [h.params]
  split
  · exact sameAnswer_raise _
  · exact sameAnswer_okRead rfl

theorem State.ShowsSame.gpRead (h : s.ShowsSame s') (desc : DescIdx) :
    SameAnswer (execGpRead desc s) (execGpRead desc s') := by
  unfold execGpRead
  rw [h.params]
  split
  · exact sameAnswer_raise _
  split
  · exact sameAnswer_raise _
  · exact sameAnswer_okRead (h.gpReadWord _)

/-- No read tells two states apart that show the same. -/
theorem State.ShowsSame.exec (h : s.ShowsSame s') (hread : i.isWrite = false) :
    SameAnswer (exec i s) (exec i s') := by
  cases i with
  | ptStatus => exact sameAnswer_okRead h.ptWord
  | rtStatus => exact sameAnswer_okRead h.rtWord
  | vstIsEnabled => exact sameAnswer_okRead (by rw [h.vstEn])
  | vstStatus => exact sameAnswer_okRead h.vstWord
  | dtStatus => exact sameAnswer_okRead h.dtWord
  | cbRead src => exact sameAnswer_okRead (by rw [h.irq])
  | irqPending => exact sameAnswer_okRead (by rw [h.irq])
  | cfgGet k => exact sameAnswer_okRead (by rw [h.cfg])
  | errStatus => exact sameAnswer_okRead (by rw [h.err])
  | errInfo => exact sameAnswer_okRead (by rw [h.err])
  | rawDir loc => exact h.readLoc loc (by rw [h.port])
  | rawOut loc => exact h.readLoc loc (by rw [h.port])
  | rawIn loc => exact h.readLoc loc (h.pinlvl loc)
  | rawPue loc => exact h.readLoc loc (by rw [h.port])
  | rawPcmsk loc => exact h.readLoc loc (by rw [h.port])
  | invGet loc => exact h.readLoc loc (by rw [h.port])
  | gpRead desc => exact h.gpRead desc
  | vpResolve desc => exact h.readWindow desc _
  | vpPol desc => exact h.readWindow desc _
  | _ => cases hread

end Reads

/-- The spindle's status word shows the counter through the PWM output only (10_state.md R30). -/
theorem vstStatusWord_congr {t t' : SpindleTimer} (hen : t'.en = t.en) (hduty : t'.duty = t.duty)
    (hpwm : t'.pwmOut = t.pwmOut) : vstStatusWord t' = vstStatusWord t := by
  simp only [vstStatusWord, hen, hduty, hpwm]

/-- Settles O60: no status word holds a hidden counter, and the spindle's shows its own through the PWM output only. -/
theorem hiddenCountersUnreadable : Obligations.HiddenCountersUnreadable := by
  unfold Obligations.HiddenCountersUnreadable
  intro s s' i cnt div cmp rcnt rdiv vcnt dcnt hs' hpwm hread
  have hshow : s.ShowsSame s' := by
    subst hs'
    exact ⟨rfl, rfl, rfl, rfl, rfl, rfl, rfl, rfl, rfl, vstStatusWord_congr rfl rfl hpwm, rfl⟩
  exact hshow.exec hread

end Sys2Proof.Machine

/-! # The reset event (10_state.md R26, 70_reset_and_hazards.md R230, R231) -/

namespace Sys2Proof.Machine

/-- Settles O15: the fields are those of `State.resetWith`, and with every timer idle no tick has an effect. -/
theorem resetEventValues : Obligations.ResetEventValues := by
  unfold Obligations.ResetEventValues
  intro s es hs
  have hstep : step s = .next (resetEvent (s.setSchedule es)) := by
    unfold step
    rw [fetch_cons s hs]
  refine ⟨_, hstep, rfl, rfl, rfl, rfl, resetWith_port _ _ _, rfl, fun src => ?_, rfl, rfl, rfl, rfl, rfl, rfl, rfl⟩
  rw [resetEvent, resetWith_irq]
  exact ⟨rfl, rfl⟩

end Sys2Proof.Machine

/-! # Which error an operation answers with (60_exceptions.md R200 to R204) -/

namespace Sys2Proof.Machine

/-- Why an operation with operands in range fails all the same: the state of the Pulse Timer and a zero period (R201),
the interrupt handshake and a second registration (R202). -/
def State.stateError (s : State) : Instr → Option Err
  | .ptConfigure p => if s.pt.state = .armed then some .stateErr else if p = 0 then some .cfgErr else none
  | .ptStart => if s.pt.state = .running then none else if s.pt.valid = false then some .cfgErr else none
  | .cbRegister src _ => if (s.irq.get src).reg then some .stateErr else none
  | .irqTake src => if (s.irq.get src).line then none else some .stateErr
  | .irqDone src => if (s.irq.get src).inserv then none else some .stateErr
  | _ => none

/-- The error an operation answers with, or none: the address first (R204), then the descriptor (R203), then the state.
`exec_responds` ties it to the model. -/
def State.errorOf (s : State) (i : Instr) : Option Err :=
  if i.WellFormed s.params = false then some .busErr
  else if i.Resolved s.params = false then some .badDesc
  else s.stateError i

/-- An outcome that is the failure `e` names, or that answers `OK` where `e` names none. -/
inductive Responds (s : State) (i : Instr) : Option Err → Out → Prop
  | fails (c : Err) : Responds s i (some c) (raise c i s)
  | answers {t : State} : t.answer.resp = .ok → Responds s i none (.next t)

section Errors

variable {s t : State} {i : Instr} {c : Err}

theorem State.stateError_ptConfigure (p : Word) : s.stateError (.ptConfigure p) =
    if s.pt.state = .armed then some .stateErr else if p = 0 then some .cfgErr else none := rfl

theorem State.stateError_ptStart : s.stateError .ptStart =
    if s.pt.state = .running then none else if s.pt.valid = false then some .cfgErr else none := rfl

theorem State.stateError_cbRegister (src : Src) (handle : Word) : s.stateError (.cbRegister src handle) =
    if (s.irq.get src).reg then some .stateErr else none := rfl

theorem State.stateError_irqTake (src : Src) : s.stateError (.irqTake src) =
    if (s.irq.get src).line then none else some .stateErr := rfl

theorem State.stateError_irqDone (src : Src) : s.stateError (.irqDone src) =
    if (s.irq.get src).inserv then none else some .stateErr := rfl

theorem State.errorOf_of_outOfRange (hw : i.WellFormed s.params = false) : s.errorOf i = some .busErr := if_pos hw

theorem State.errorOf_of_unresolved (hw : i.WellFormed s.params = true) (hr : i.Resolved s.params = false) :
    s.errorOf i = some .badDesc := by
  simp [State.errorOf, hw, hr]

theorem State.errorOf_of_resolved (hw : i.WellFormed s.params = true) (hr : i.Resolved s.params = true) :
    s.errorOf i = s.stateError i := by
  simp [State.errorOf, hw, hr]

/-- No read is refused for the state of the block. -/
theorem State.stateError_of_read (hi : i.isWrite = false) : s.stateError i = none := by
  cases i with
  | ptConfigure p => cases hi
  | ptStart => cases hi
  | cbRegister src handle => cases hi
  | irqTake src => cases hi
  | irqDone src => cases hi
  | _ => rfl

/-- The descriptor check lets only bound entries through. -/
theorem bound_of_gpCheck {P : Params} {desc : DescIdx} {ks : List Kind} {ds : List Dir} {d : Descriptor}
    (h : gpCheck P desc ks ds = some d) : P.Bound desc ks ds = true := by
  by_contra hb
  rw [gpCheck_eq_none_iff.mpr (by simpa using hb)] at h
  cases h

/-! The three ways to show that an operation responds as `State.errorOf` says, one for each of its branches. -/

theorem Responds.outOfRange (hw : i.WellFormed s.params = false) : Responds s i (s.errorOf i) (raise .busErr i s) :=
  State.errorOf_of_outOfRange hw ▸ .fails _

theorem Responds.unresolved (hw : i.WellFormed s.params = true) (hr : i.Resolved s.params = false) :
    Responds s i (s.errorOf i) (raise .badDesc i s) :=
  State.errorOf_of_unresolved hw hr ▸ .fails _

theorem Responds.resolved {o : Out} (hw : i.WellFormed s.params = true) (hr : i.Resolved s.params = true)
    (h : Responds s i (s.stateError i) o) : Responds s i (s.errorOf i) o :=
  (State.errorOf_of_resolved hw hr).symm ▸ h

/-- A read of a register of a location fails for its address only (60_exceptions.md R204). -/
theorem readLoc_responds {loc : Loc} (hw : i.WellFormed s.params = decide (loc.toNat < s.params.nloc))
    (hr : i.Resolved s.params = true) (hi : i.isWrite = false) (v : Port) :
    Responds s i (s.errorOf i) (readLoc i loc v s) := by
  unfold readLoc
  split
  next hl => exact .outOfRange (hw.trans (by simpa using hl))
  next hl => exact .resolved (hw.trans (by simpa using hl)) hr (State.stateError_of_read hi ▸ .answers rfl)

/-- A window read fails for its address only (60_exceptions.md R204). -/
theorem readWindow_responds {desc : DescIdx} (hw : i.WellFormed s.params = decide (desc.toNat < s.params.ndesc))
    (hr : i.Resolved s.params = true) (hi : i.isWrite = false) (word : Descriptor → Word) :
    Responds s i (s.errorOf i) (readWindow i desc word s) := by
  unfold readWindow
  split
  next hl => exact .outOfRange (hw.trans (by simpa using hl))
  next hl => exact .resolved (hw.trans (by simpa using hl)) hr (State.stateError_of_read hi ▸ .answers rfl)

/-- Every operation fails with the error `State.errorOf` names, and answers `OK` where it names none. -/
theorem exec_responds (i : Instr) (s : State) : Responds s i (s.errorOf i) (exec i s) := by
  cases i with
  | ptConfigure p =>
    refine .resolved rfl rfl ?_
    simp only [exec, execPtConfigure, State.stateError_ptConfigure]
    split
    · exact .fails _
    split
    · exact .fails _
    · exact .answers rfl
  | ptStart =>
    refine .resolved rfl rfl ?_
    simp only [exec, execPtStart, State.stateError_ptStart]
    split
    · exact .answers rfl
    split
    · exact .fails _
    · exact .answers rfl
  | vstEnable b => cases b <;> exact .answers rfl
  | dtArm =>
    simp only [exec, execDtArm]
    split <;> exact .answers rfl
  | cbRegister src handle =>
    refine .resolved rfl rfl ?_
    simp only [exec, execCbRegister, State.stateError_cbRegister]
    split
    · exact .fails _
    · exact .answers rfl
  | irqTake src =>
    refine .resolved rfl rfl ?_
    simp only [exec, execIrqTake, State.stateError_irqTake]
    split
    · exact .answers rfl
    · exact .fails _
  | irqDone src =>
    refine .resolved rfl rfl ?_
    simp only [exec, execIrqDone, State.stateError_irqDone]
    split
    · exact .answers rfl
    · exact .fails _
  | gpInit desc =>
    simp only [exec, execGpInit]
    split
    next hd => exact .unresolved rfl (gpCheck_eq_none_iff.mp hd)
    next hd => exact .resolved rfl (bound_of_gpCheck hd) (.answers rfl)
  | gpWrite desc val =>
    simp only [exec, execGpWrite]
    split
    next hd => exact .unresolved rfl (gpCheck_eq_none_iff.mp hd)
    next hd => exact .resolved rfl (bound_of_gpCheck hd) (.answers rfl)
  | gpWritePin desc val =>
    simp only [exec, execGpWritePin]
    split
    next hd => exact .unresolved rfl (gpCheck_eq_none_iff.mp hd)
    next hd => exact .resolved rfl (bound_of_gpCheck hd) (.answers rfl)
  | gpSetPullup desc val =>
    simp only [exec, execGpSetPullup]
    split
    next hd => exact .unresolved rfl (gpCheck_eq_none_iff.mp hd)
    next hd => split <;> exact .resolved rfl (bound_of_gpCheck hd) (.answers rfl)
  | gpChangeInt desc val =>
    simp only [exec, execGpChangeInt]
    split
    next hd => exact .unresolved rfl (gpCheck_eq_none_iff.mp hd)
    next hd => exact .resolved rfl (bound_of_gpCheck hd) (.answers rfl)
  | gpRead desc =>
    simp only [exec, execGpRead]
    split
    next hl => exact .outOfRange (by simpa [Instr.WellFormed] using hl)
    next hl =>
      have hw : (Instr.gpRead desc).WellFormed s.params = true := by simpa [Instr.WellFormed] using hl
      split
      next hd => exact .unresolved hw (gpCheck_eq_none_iff.mp hd)
      next hd => exact .resolved hw (bound_of_gpCheck hd) (.answers rfl)
  | invSet loc m =>
    simp only [exec, execInvSet]
    split
    next hl => exact .outOfRange (by simpa [Instr.WellFormed] using hl)
    next hl => exact .resolved (by simpa [Instr.WellFormed] using hl) rfl (.answers rfl)
  | rawDir loc => exact readLoc_responds rfl rfl rfl _
  | rawOut loc => exact readLoc_responds rfl rfl rfl _
  | rawIn loc => exact readLoc_responds rfl rfl rfl _
  | rawPue loc => exact readLoc_responds rfl rfl rfl _
  | rawPcmsk loc => exact readLoc_responds rfl rfl rfl _
  | invGet loc => exact readLoc_responds rfl rfl rfl _
  | vpResolve desc => exact readWindow_responds rfl rfl rfl _
  | vpPol desc => exact readWindow_responds rfl rfl rfl _
  | _ => exact .answers rfl

/-- An operation fails with `c` exactly when `State.errorOf` names `c`. -/
theorem exec_eq_raise_iff : exec i s = raise c i s ↔ s.errorOf i = some c := by
  have h := exec_responds i s
  generalize s.errorOf i = e, exec i s = o at h
  cases h with
  | fails c' =>
    constructor
    · intro hc
      have hresp : (fail c' (encode i) s).answer = (fail c (encode i) s).answer := by
        rw [Host.Outcome.next.inj hc]
      simpa using hresp
    · rintro ⟨⟩
      rfl
  | answers ht =>
    refine ⟨fun hc => ?_, nofun⟩
    rw [Host.Outcome.next.inj hc] at ht
    cases ht

end Errors

end Sys2Proof.Machine

/-! # Repeating an operation at once (20_memory.md R55) -/

namespace Sys2Proof.Machine

section Repeating

variable {s t u : State} {i : Instr} {c : Err}

/-- A write that `Writes` lists is done and answers `OK`: the converse of `exec_answers`. -/
theorem Writes.exec_eq (h : Writes s i u) : exec i s = ok u := by
  cases h with
  | ptConfigure p hs hp => simp only [exec, execPtConfigure, if_neg hs, if_neg hp]
  | ptStart hs hv => simp [exec, execPtStart, hs, hv]
  | ptStartAgain hs => exact if_pos hs
  | dtArm hs => exact if_neg hs
  | dtArmAgain hs => exact if_pos hs
  | gpInit desc d hd => simp only [exec, execGpInit, hd]
  | gpWrite desc val d hd => simp only [exec, execGpWrite, hd]
  | gpWritePin desc val d hd => simp only [exec, execGpWritePin, hd]
  | gpSetPullup desc val d hd hi => simp only [exec, execGpSetPullup, hd, if_pos hi]
  | gpSetPullupOutput desc val d hd hi => simp only [exec, execGpSetPullup, hd, if_neg hi]
  | gpChangeInt desc val d hd hm =>
    simp only [exec, execGpChangeInt, hd]
    rw [if_neg (by rw [hm]; decide)]
  | gpChangeIntLast desc val d hd hm =>
    simp only [exec, execGpChangeInt, hd]
    rw [if_pos hm]
  | cbRegister src handle hr => simp [exec, execCbRegister, hr]
  | irqTake src hl => exact if_pos hl
  | irqDone src hi => exact if_pos hi
  | invSet loc m hl => exact if_neg (Nat.not_le.mpr hl)
  | _ => rfl

/-- Only a write is listed in `Writes`. -/
theorem Writes.isWrite (h : Writes s i u) : i.isWrite = true := by
  cases h <;> rfl

/-- Setting or clearing the bits of a mask twice is doing it once. -/
@[simp] theorem maskWrite_maskWrite (reg m : Port) (b : Bool) :
    maskWrite (maskWrite reg m b) m b = maskWrite reg m b := by
  apply BitVec.eq_of_getLsbD_eq
  intro k _
  simp only [maskWrite_bit]
  split <;> rfl

/-- Replacing the bits of a mask twice is doing it once. -/
@[simp] theorem maskMerge_maskMerge (reg m v : Port) : maskMerge (maskMerge reg m v) m v = maskMerge reg m v := by
  apply BitVec.eq_of_getLsbD_eq
  intro k _
  simp only [maskMerge_bit]
  split <;> rfl

/-- Clearing a mask and adding a bit, in or out of the mask, twice is doing it once. -/
theorem clear_or_twice (reg m v : Port) : ((reg &&& ~~~m ||| v) &&& ~~~m) ||| v = reg &&& ~~~m ||| v := by
  apply BitVec.eq_of_getLsbD_eq
  intro k hk
  simp only [BitVec.getLsbD_or, BitVec.getLsbD_and, BitVec.getLsbD_not, hk]
  cases m.getLsbD k <;> simp

/-- A port write of what is already there changes no level, so it is no change at all (41_gpio_engine.md R108). -/
theorem writePort_self {loc : Loc} {r : PortRegs} (h : r = s.port loc) : writePort s loc r = s := by
  subst h
  simp [writePort, pcDetect]

/-- A register write of what is already there. -/
theorem setPort_self {loc : Loc} {r : PortRegs} (h : r = s.port loc) : s.setPort loc r = s := by
  subst h
  exact setPort_port_self s loc

/-- The writes that R55 lists, with the state each is listed for. A read is no write, and nothing is asked of it. -/
def State.Repeatable (s : State) : Instr → Prop
  | .ptConfigure _ => s.pt.state = .running
  | .dtArm => s.dt.state = .armed
  | .rtArm _ | .cbRegister _ _ | .irqTake _ | .irqDone _ => False
  | _ => True

theorem Writes.stays (h : Writes s i u) (hu : u = s) : Writes s i s := hu ▸ h

/-- A listed write finds, when it comes again at once, the values it has written. -/
theorem Writes.again (h : Writes s i u) (hr : s.Repeatable i) (a : Answer) :
    Writes (u.setAnswer a) i (u.setAnswer a) := by
  cases h with
  | ptConfigure p hs hp =>
    have hrun : s.pt.state = .running := hr
    refine .stays (.ptConfigure p ?_ hp) ?_
    · simp [hrun]
    · simp [hrun, State.setPt, State.setAnswer]
  | ptStart => exact .ptStartAgain rfl
  | ptStartAgain hs => exact .ptStartAgain hs
  | ptStop => exact .ptStop
  | rtArm d => exact hr.elim
  | rtDisarm => exact .rtDisarm
  | vstEnable => exact .vstEnable
  | vstDisable => exact .vstDisable
  | vstSetDuty v => exact .vstSetDuty v
  | dtArm hs => exact (hs hr).elim
  | dtArmAgain hs => exact .dtArmAgain hs
  | dtDisarm => exact .dtDisarm
  | gpInit desc d hd =>
    exact .stays (.gpInit desc d (by simpa using hd)) (writePort_self (by simp))
  | gpWrite desc val d hd =>
    exact .stays (.gpWrite desc val d (by simpa using hd)) (writePort_self (by simp))
  | gpWritePin desc val d hd =>
    exact .stays (.gpWritePin desc val d (by simpa using hd)) (writePort_self (by simp [clear_or_twice]))
  | gpSetPullup desc val d hd hi =>
    exact .stays (.gpSetPullup desc val d hd hi) (setPort_self (by simp))
  | gpSetPullupOutput desc val d hd hi => exact .gpSetPullupOutput desc val d hd hi
  | gpChangeInt desc val d hd hm =>
    have hw : State.watch ((s.watch d (val.getLsbD 0)).setAnswer a) d (val.getLsbD 0) =
        (s.watch d (val.getLsbD 0)).setAnswer a := setPort_self (by simp)
    exact .stays (.gpChangeInt desc val d hd (hw.symm ▸ hm)) hw
  | gpChangeIntLast desc val d hd hm =>
    have hw : State.watch ((cancel .change (s.watch d (val.getLsbD 0))).setAnswer a) d (val.getLsbD 0) =
        (cancel .change (s.watch d (val.getLsbD 0))).setAnswer a := setPort_self (by simp)
    exact .stays (.gpChangeIntLast desc val d hd (hw.symm ▸ hm)) (by rw [hw]; rfl)
  | cbRegister src handle _ => exact hr.elim
  | irqTake src _ => exact hr.elim
  | irqDone src _ => exact hr.elim
  | cfgSet k v => exact .stays (.cfgSet k v) (by cases k <;> rfl)
  | invSet loc m hl => exact .stays (.invSet loc m hl) (setPort_self (by simp))

/-- Recording the same failure twice is recording it once (60_exceptions.md R205). -/
theorem fail_fail (c : Err) (x : Xact) (s : State) : fail c x (fail c x s) = fail c x s := by
  simp [fail, State.setErr, State.setAnswer, ErrRecord.record, ErrRecord.stick, BitVec.or_assoc]

/-- What fails, fails again alike: no cause of an error reads the error record or the answer. -/
theorem exec_again_of_raise (h : exec i s = raise c i s) :
    exec i (fail c (encode i) s) = .next (fail c (encode i) s) := by
  have hagain : (fail c (encode i) s).errorOf i = some c := exec_eq_raise_iff (s := s).mp h
  rw [exec_eq_raise_iff.mpr hagain, raise, fail_fail]

/-- What a read has shown, it shows again: no read shows the answer. -/
theorem exec_again_of_okRead {v : Word} (hi : i.isWrite = false) (h : exec i s = okRead v s) :
    exec i (s.setAnswer ⟨.ok, v⟩) = .next (s.setAnswer ⟨.ok, v⟩) := by
  have hshow : s.ShowsSame (s.setAnswer ⟨.ok, v⟩) := ⟨rfl, rfl, rfl, rfl, rfl, rfl, rfl, rfl, rfl, rfl, rfl⟩
  obtain ⟨t, t', ht, ht', hans⟩ := hshow.exec hi
  obtain rfl : s.setAnswer ⟨.ok, v⟩ = t := Host.Outcome.next.inj (h.symm.trans ht)
  have hall := exec_answers i (s.setAnswer ⟨.ok, v⟩)
  generalize exec i (s.setAnswer ⟨.ok, v⟩) = o at hall ht' ⊢
  cases hall with
  | fails c =>
    cases ht'
    cases hans
  | reads v' =>
    cases ht'
    cases hans
    rfl
  | writes hw =>
    rw [hw.isWrite] at hi
    cases hi

/-- What a listed write has done, it leaves alone when it comes again. -/
theorem Writes.exec_again (h : Writes s i u) (hr : s.Repeatable i) :
    exec i (u.setAnswer ⟨.ok, 0⟩) = .next (u.setAnswer ⟨.ok, 0⟩) :=
  (h.again hr ⟨.ok, 0⟩).exec_eq

end Repeating

/-- Settles O57: an operand in range and a bound descriptor leave a read no cause to fail. -/
theorem readsChangeNothing : Obligations.ReadsChangeNothing := by
  unfold Obligations.ReadsChangeNothing
  intro s i hi hw hr
  have hnone : s.errorOf i = none := by
    rw [State.errorOf_of_resolved hw hr, State.stateError_of_read hi]
  have hall := exec_answers i s
  generalize ho : exec i s = o at hall
  cases hall with
  | fails c =>
    rw [exec_eq_raise_iff.mp ho] at hnone
    cases hnone
  | reads v => exact ⟨v, rfl⟩
  | writes h =>
    rw [h.isWrite] at hi
    cases hi

/-- Settles O58: what an operation has answered or done, it answers or does alike when it comes again at once. -/
theorem idempotentOperations : Obligations.IdempotentOperations := by
  unfold Obligations.IdempotentOperations
  intro s t i hi ht
  have hall := exec_answers i s
  generalize ho : exec i s = o at hall ht
  cases hall with
  | fails c =>
    cases ht
    exact ⟨exec_again_of_raise ho, fun _ => ⟨rfl, nofun⟩⟩
  | reads v hread =>
    cases ht
    exact ⟨exec_again_of_okRead hread ho, fun _ => ⟨rfl, fun _ => rfl⟩⟩
  | writes hw =>
    cases ht
    have hwrite := hw.isWrite
    have hr : s.Repeatable i := by
      rcases hi with hread | hm | ⟨rfl, harmed⟩ | ⟨p, rfl, hrun⟩ | ⟨b, rfl⟩ | ⟨v, rfl⟩ | ⟨desc, rfl⟩ |
        ⟨desc, v, hm⟩ | ⟨k, v, rfl⟩ | ⟨loc, m, rfl⟩
      · simp [hread] at hwrite
      · simp only [List.mem_cons, List.not_mem_nil, or_false] at hm
        rcases hm with rfl | rfl | rfl | rfl <;> trivial
      · exact harmed
      · exact hrun
      · trivial
      · trivial
      · trivial
      · simp only [List.mem_cons, List.not_mem_nil, or_false] at hm
        rcases hm with rfl | rfl | rfl | rfl <;> trivial
      · trivial
      · trivial
    exact ⟨hw.exec_again hr, by simp [hwrite]⟩

end Sys2Proof.Machine
/-! # The transaction word, its offsets and the operation map (30_encoding.md R70 to R80)

An operation has one row of the map, and a word decodes to it exactly when that row selects the word and builds the
operation from it (`decode_eq_ok_iff`). A row selects a word by its header, and of an indexed row the offset is the
base plus four times the index (`selects_iff`); the statements about encoding are read off these two. -/

namespace Sys2Proof

section Offsets

variable {n : Nat} {base off : BitVec 12}

/-- The bits of `OFF` that hold an index of `n` bits (30_encoding.md R71). -/
def idxMask (n : Nat) : BitVec 12 := (BitVec.allOnes n).setWidth 12 <<< 2

theorem getLsbD_idxMask (n i : Nat) :
    (idxMask n).getLsbD i = (decide (i < 12) && (decide (2 ≤ i) && decide (i < n + 2))) := by
  rw [Bool.eq_iff_iff]
  simp only [idxMask, BitVec.getLsbD_shiftLeft, BitVec.getLsbD_setWidth, BitVec.getLsbD_allOnes, Bool.and_eq_true,
    Bool.not_eq_true', decide_eq_true_eq, decide_eq_false_iff_not]
  omega

/-- A base with no bit of its own among the index bits. -/
theorem getLsbD_base_of_and_eq_zero (hb : base &&& idxMask n = 0) {i : Nat} (hi : i < 12) (h2 : 2 ≤ i)
    (hn : i < n + 2) : base.getLsbD i = false := by
  have h := congrArg (BitVec.getLsbD · i) hb
  simpa only [BitVec.getLsbD_and, getLsbD_idxMask, hi, h2, hn, decide_true, Bool.and_true, BitVec.ofNat_eq_ofNat,
    BitVec.getLsbD_zero] using h

/-- The bits of an index in its place. -/
theorem getLsbD_shifted_idx (idx : BitVec n) {i : Nat} (hi : i < 12) :
    (idx.setWidth 12 <<< 2).getLsbD i = (decide (2 ≤ i ∧ i < n + 2) && idx.getLsbD (i - 2)) := by
  rw [BitVec.getLsbD_shiftLeft, BitVec.getLsbD_setWidth]
  by_cases hx : 2 ≤ i ∧ i < n + 2
  · simp [hi, hx, show ¬ i < 2 by omega, show i - 2 < 12 by omega]
  · by_cases h2 : i < 2
    · simp [h2]
    · simp [hx, BitVec.getLsbD_of_ge idx (i - 2) (by omega)]

/-- Adding an index to such a base sets bits and carries none. -/
theorem offsetAt_eq_or (hb : base &&& idxMask n = 0) (idx : BitVec n) :
    offsetAt base idx = base ||| idx.setWidth 12 <<< 2 := by
  have hmul : (4 : BitVec 12) * idx.setWidth 12 = idx.setWidth 12 <<< 2 := by
    rw [BitVec.shiftLeft_eq_mul_twoPow, BitVec.mul_comm]
    rfl
  rw [offsetAt, hmul]
  apply BitVec.add_eq_or_of_and_eq_zero
  apply BitVec.eq_of_getLsbD_eq
  intro i hi
  rw [BitVec.getLsbD_and, getLsbD_shifted_idx idx hi, BitVec.getLsbD_zero]
  by_cases hx : 2 ≤ i ∧ i < n + 2
  · rw [getLsbD_base_of_and_eq_zero hb hi hx.1 hx.2, Bool.false_and]
  · simp [hx]

/-- The index fills the bits [n+1:2] and the base the others. -/
theorem getLsbD_offsetAt (hb : base &&& idxMask n = 0) (idx : BitVec n) {i : Nat} (hi : i < 12) :
    (offsetAt base idx).getLsbD i = if 2 ≤ i ∧ i < n + 2 then idx.getLsbD (i - 2) else base.getLsbD i := by
  rw [offsetAt_eq_or hb, BitVec.getLsbD_or, getLsbD_shifted_idx idx hi]
  by_cases hx : 2 ≤ i ∧ i < n + 2
  · rw [getLsbD_base_of_and_eq_zero hb hi hx.1 hx.2]
    simp [hx]
  · simp [hx]

theorem extractLsb'_offsetAt (hb : base &&& idxMask n = 0) (hn : n ≤ 10) (idx : BitVec n) :
    (offsetAt base idx).extractLsb' 2 n = idx := by
  apply BitVec.eq_of_getLsbD_eq
  intro i hi
  rw [BitVec.getLsbD_extractLsb', getLsbD_offsetAt hb idx (show 2 + i < 12 by omega)]
  simp [hi, show 2 + i < n + 2 by omega, show 2 + i - 2 = i by omega]

theorem getLsbD_and_not_idxMask (off : BitVec 12) {i : Nat} (hi : i < 12) :
    (off &&& ~~~idxMask n).getLsbD i = if 2 ≤ i ∧ i < n + 2 then false else off.getLsbD i := by
  rw [BitVec.getLsbD_and, BitVec.getLsbD_not, getLsbD_idxMask, ← Bool.decide_and]
  by_cases hx : 2 ≤ i ∧ i < n + 2 <;> simp [hi, hx]

/-- An offset has the base outside the index bits exactly when it is the base plus an index. -/
theorem and_not_idxMask_eq_iff (hb : base &&& idxMask n = 0) :
    off &&& ~~~idxMask n = base ↔ ∃ idx : BitVec n, off = offsetAt base idx := by
  constructor
  · rintro rfl
    refine ⟨off.extractLsb' 2 n, BitVec.eq_of_getLsbD_eq fun i hi => ?_⟩
    rw [getLsbD_offsetAt hb _ hi, getLsbD_and_not_idxMask off hi]
    by_cases hx : 2 ≤ i ∧ i < n + 2
    · simp [hx, show i - 2 < n by omega, show 2 + (i - 2) = i by omega]
    · simp [hx]
  · rintro ⟨idx, rfl⟩
    apply BitVec.eq_of_getLsbD_eq
    intro i hi
    rw [getLsbD_and_not_idxMask _ hi, getLsbD_offsetAt hb idx hi]
    by_cases hx : 2 ≤ i ∧ i < n + 2
    · simp [hx, getLsbD_base_of_and_eq_zero hb hi hx.1 hx.2]
    · simp [hx]

end Offsets

section Words

variable (sz : BitVec 2) (wr : BitVec 1) (off : BitVec 12) (data : Word) (x y : Xact)

/-- A word is its four fields (30_encoding.md R70). -/
theorem pack_fields : Xact.pack x.sz x.wr x.off x.data = x := by
  apply BitVec.eq_of_getLsbD_eq
  intro i hi
  rw [getLsbD_pack]
  split
  next h => simp [Xact.data, h]
  split
  next h h' => simp [Xact.off, show i - 32 < 12 by omega, show 32 + (i - 32) = i by omega]
  split
  next h h' => simp [Xact.wr, show i = 44 by omega]
  next h h' => simp [Xact.sz, show i - 45 < 2 by omega, show 45 + (i - 45) = i by omega]

/-- Words with the same fields are the same. -/
theorem xact_ext_iff : x = y ↔ x.sz = y.sz ∧ x.wr = y.wr ∧ x.off = y.off ∧ x.data = y.data := by
  constructor
  · rintro rfl
    exact ⟨rfl, rfl, rfl, rfl⟩
  · rintro ⟨hs, hw, ho, hd⟩
    rw [← pack_fields x, hs, hw, ho, hd, pack_fields]

@[simp] theorem sz_and : Xact.sz (x &&& y) = x.sz &&& y.sz := BitVec.extractLsb'_and
@[simp] theorem wr_and : Xact.wr (x &&& y) = x.wr &&& y.wr := BitVec.extractLsb'_and
@[simp] theorem off_and : Xact.off (x &&& y) = x.off &&& y.off := BitVec.extractLsb'_and
@[simp] theorem data_and : Xact.data (x &&& y) = x.data &&& y.data := BitVec.extractLsb'_and

/-! The index fields are bits of the offset (30_encoding.md R71), and the numbers of the sources and of the
configuration registers are all the values of a 2-bit index. -/

theorem extractLsb'_off {len : Nat} (h : 2 + len ≤ 12) : x.off.extractLsb' 2 len = x.extractLsb' 34 len := by
  apply BitVec.eq_of_getLsbD_eq
  intro i hi
  simp [Xact.off, hi, show 2 + i < 12 by omega, show 32 + (2 + i) = 34 + i by omega]

theorem idxSrc_eq_off : x.idxSrc = Src.ofBits (x.off.extractLsb' 2 2) := by rw [extractLsb'_off x (by decide)]; rfl
theorem idxCfg_eq_off : x.idxCfg = CfgReg.ofBits (x.off.extractLsb' 2 2) := by rw [extractLsb'_off x (by decide)]; rfl
theorem idxLoc_eq_off : x.idxLoc = x.off.extractLsb' 2 3 := (extractLsb'_off x (by decide)).symm
theorem winDesc_eq_off : x.winDesc = x.off.extractLsb' 2 8 := (extractLsb'_off x (by decide)).symm

theorem bits_srcOfBits : ∀ b : BitVec 2, (Src.ofBits b).bits = b := by decide
theorem bits_cfgOfBits : ∀ b : BitVec 2, (CfgReg.ofBits b).bits = b := by decide

theorem idxSrc_eq_iff : x.idxSrc = y.idxSrc ↔ x.off.extractLsb' 2 2 = y.off.extractLsb' 2 2 := by
  rw [idxSrc_eq_off, idxSrc_eq_off, (Function.LeftInverse.injective bits_srcOfBits).eq_iff]

theorem idxCfg_eq_iff : x.idxCfg = y.idxCfg ↔ x.off.extractLsb' 2 2 = y.off.extractLsb' 2 2 := by
  rw [idxCfg_eq_off, idxCfg_eq_off, (Function.LeftInverse.injective bits_cfgOfBits).eq_iff]

theorem idxLoc_eq_iff : x.idxLoc = y.idxLoc ↔ x.off.extractLsb' 2 3 = y.off.extractLsb' 2 3 := by
  rw [idxLoc_eq_off, idxLoc_eq_off]

theorem winDesc_eq_iff : x.winDesc = y.winDesc ↔ x.off.extractLsb' 2 8 = y.off.extractLsb' 2 8 := by
  rw [winDesc_eq_off, winDesc_eq_off]

/-! What a packed word carries in its index fields and in its data fields. -/

theorem idxSrc_pack {base : BitVec 12} (hb : base &&& idxMask 2 = 0) (src : Src) :
    (Xact.pack sz wr (offsetAt base src.bits) data).idxSrc = src := by
  rw [idxSrc_eq_off, off_pack, extractLsb'_offsetAt hb (by decide), ofBits_bits]

theorem idxCfg_pack {base : BitVec 12} (hb : base &&& idxMask 2 = 0) (k : CfgReg) :
    (Xact.pack sz wr (offsetAt base k.bits) data).idxCfg = k := by
  rw [idxCfg_eq_off, off_pack, extractLsb'_offsetAt hb (by decide), cfgOfBits_bits]

theorem idxLoc_pack {base : BitVec 12} (hb : base &&& idxMask 3 = 0) (loc : Loc) :
    (Xact.pack sz wr (offsetAt base loc) data).idxLoc = loc := by
  rw [idxLoc_eq_off, off_pack, extractLsb'_offsetAt hb (by decide)]

theorem winDesc_pack {base : BitVec 12} (hb : base &&& idxMask 8 = 0) (desc : DescIdx) :
    (Xact.pack sz wr (offsetAt base desc) data).winDesc = desc := by
  rw [winDesc_eq_off, off_pack, extractLsb'_offsetAt hb (by decide)]

theorem fieldB_pack (b : Bool) : (Xact.pack sz wr off ((BitVec.ofBool b).setWidth 32)).fieldB = b := by
  rw [fieldB_eq, data_pack]
  cases b <;> rfl

theorem fieldSrc_pack (src : Src) : (Xact.pack sz wr off (src.bits.setWidth 32)).fieldSrc = src := by
  rw [fieldSrc_eq, data_pack]
  cases src <;> rfl

theorem fieldDesc_pack (desc : DescIdx) (val : BitVec 16) :
    (Xact.pack sz wr off (dataWG desc val)).fieldDesc = desc := by
  rw [fieldDesc_eq, data_pack, dataWG_desc]

theorem fieldVal_pack (desc : DescIdx) (val : BitVec 16) :
    (Xact.pack sz wr off (dataWG desc val)).fieldVal = val := by
  rw [fieldVal_eq, data_pack, dataWG_val]

end Words

section Rows

variable {x y : Xact} {i : Instr} {r q : OpRow}

/-- The row's mask and match value select the word (30_encoding.md R73 step 2). -/
def OpRow.Selects (r : OpRow) (x : Xact) : Prop := x &&& r.mask = r.pattern

/-- Any two rows differ in a bit that both look at. -/
theorem opMap_conflict : opMap.Pairwise fun r q => r.pattern &&& q.mask ≠ q.pattern &&& r.mask := by decide

/-- Rows that select one word agree on the bits both look at. -/
theorem OpRow.Selects.agree (hr : r.Selects x) (hq : q.Selects x) : r.pattern &&& q.mask = q.pattern &&& r.mask := by
  rw [← hr, ← hq, BitVec.and_assoc, BitVec.and_assoc, BitVec.and_comm r.mask]

theorem opMap_disjoint : opMap.Pairwise fun r q => ∀ x : Xact, ¬ (r.Selects x ∧ q.Selects x) :=
  opMap_conflict.imp fun hne _ h => hne (h.1.agree h.2)

/-- At most one row selects a word (30_encoding.md R73). -/
theorem OpRow.Selects.unique (hr : r ∈ opMap) (hq : q ∈ opMap) (hrx : r.Selects x) (hqx : q.Selects x) : r = q := by
  have : Std.Symm fun r q : OpRow => ∀ x, ¬ (r.Selects x ∧ q.Selects x) := ⟨fun _ _ h x hx => h x hx.symm⟩
  by_contra hne
  exact opMap_disjoint.forall hr hq hne x ⟨hrx, hqx⟩

/-- The row that the search finds is the one that selects the word. -/
theorem selectRow_eq_some_iff : selectRow x = some r ↔ r ∈ opMap ∧ r.Selects x := by
  constructor
  · intro h
    exact ⟨List.mem_of_find?_eq_some h, by simpa [OpRow.Selects] using List.find?_some h⟩
  · rintro ⟨hr, hrx⟩
    have hsome : (selectRow x).isSome := List.find?_isSome.mpr ⟨r, hr, by simpa [OpRow.Selects] using hrx⟩
    obtain ⟨q, hq⟩ := Option.isSome_iff_exists.mp hsome
    have hqx : q.Selects x := by simpa [OpRow.Selects] using List.find?_some hq
    rw [hq, OpRow.Selects.unique (List.mem_of_find?_eq_some hq) hr hqx hrx]

/-! The rows stand in the order of the constructors of `Instr`. -/

theorem ctorIdx_lt (i : Instr) : i.ctorIdx < opMap.length := by
  cases i <;> exact Nat.le_of_ble_eq_true rfl

/-- The row of an operation; every constructor has one (`row_eq_getElem`). -/
def Instr.row (i : Instr) : OpRow := opMap.getD i.ctorIdx opMap[0]

theorem row_eq_getElem (i : Instr) : i.row = opMap[i.ctorIdx]'(ctorIdx_lt i) :=
  List.getD_eq_getElem _ _ (ctorIdx_lt i)

theorem row_mem (i : Instr) : i.row ∈ opMap := row_eq_getElem i ▸ List.getElem_mem _

theorem map_ctorIdx_build (x : Xact) : opMap.map (fun r => (r.build x).ctorIdx) = List.range opMap.length := rfl

/-- Whatever the word, a row builds an operation whose row it is. -/
theorem row_build (hr : r ∈ opMap) (x : Xact) : (r.build x).row = r := by
  obtain ⟨k, hk, rfl⟩ := List.getElem_of_mem hr
  have hidx : (opMap[k].build x).ctorIdx = k := by
    have := List.getElem_of_eq (map_ctorIdx_build x) (i := k) (by simpa using hk)
    rwa [List.getElem_map, List.getElem_range] at this
  simp only [row_eq_getElem, hidx]

/-! What a row looks at, by the format of its operation (30_encoding.md R71). -/

/-- The number of index bits in `OFF` (30_encoding.md R71): 2 for `WI` and `RI` on CB and CFG, 3 for them on INV and
RAW.*, 8 for `RD`, and none for the other formats. -/
def Instr.idxWidth : Instr → Nat
  | .cbRegister _ _ | .cbRead _ | .cfgSet _ _ | .cfgGet _ => 2
  | .rawDir _ | .rawOut _ | .rawIn _ | .rawPue _ | .rawPcmsk _ | .invSet _ _ | .invGet _ => 3
  | .gpRead _ | .vpResolve _ | .vpPol _ => 8
  | _ => 0

/-- The offset of index 0 (20_memory.md R51). -/
def OpRow.base (r : OpRow) : BitVec 12 := Xact.off r.pattern

/-- The row looks at the size, the direction and the offset outside the index, for the format of `i`. -/
abbrev OpRow.HasFormat (r : OpRow) (i : Instr) : Prop :=
  r.pattern = Xact.pack 2 (BitVec.ofBool i.isWrite) r.base 0 ∧ r.mask = Xact.pack 3 1 (~~~idxMask i.idxWidth) 0 ∧
    r.base &&& idxMask i.idxWidth = 0 ∧ r.base.toNat % 4 = 0

theorem opMap_hasFormat : ∀ r ∈ opMap, r.HasFormat (r.build 0) := by decide

theorem isWrite_build (i : Instr) (x : Xact) : (i.row.build x).isWrite = i.isWrite := by cases i <;> rfl
theorem idxWidth_build (i : Instr) (x : Xact) : (i.row.build x).idxWidth = i.idxWidth := by cases i <;> rfl

theorem row_hasFormat (i : Instr) : i.row.HasFormat i := by
  have h := opMap_hasFormat i.row (row_mem i)
  rwa [OpRow.HasFormat, isWrite_build, idxWidth_build] at h

theorem idxWidth_le (i : Instr) : i.idxWidth ≤ 10 := by cases i <;> exact Nat.le_of_ble_eq_true rfl

/-- The row of an operation selects the words of 4 bytes and of its direction that have its base outside the index. -/
theorem selects_iff_and : i.row.Selects x ↔
    x.sz = 2 ∧ x.wr = BitVec.ofBool i.isWrite ∧ x.off &&& ~~~idxMask i.idxWidth = i.row.base := by
  obtain ⟨hp, hm, -⟩ := row_hasFormat i
  have hsz : x.sz &&& 3#2 = x.sz := BitVec.and_allOnes
  have hwr : x.wr &&& 1#1 = x.wr := BitVec.and_allOnes
  rw [OpRow.Selects, hp, hm, xact_ext_iff]
  simp [hsz, hwr]

/-- The offsets that the row of an operation selects are its base plus any index. -/
theorem selects_iff : i.row.Selects x ↔
    x.sz = 2 ∧ x.wr = BitVec.ofBool i.isWrite ∧ ∃ idx : BitVec i.idxWidth, x.off = offsetAt i.row.base idx := by
  obtain ⟨-, -, hb, -⟩ := row_hasFormat i
  rw [selects_iff_and, and_not_idxMask_eq_iff hb]

/-- Selection depends on the header alone. -/
theorem selects_congr (hh : x.header = y.header) : i.row.Selects x ↔ i.row.Selects y := by
  rw [selects_iff, selects_iff, sz_eq_header, wr_eq_header, off_eq_header, hh, ← sz_eq_header, ← wr_eq_header,
    ← off_eq_header]

/-- What decoding gives, complete: the operation whose row selects the word and builds it. -/
theorem decode_eq_ok_iff : decode x = .ok i ↔ i.row.Selects x ∧ i.row.build x = i := by
  constructor
  · intro h
    unfold decode at h
    split at h
    · cases h
    split at h
    · cases h
    split at h
    · cases h
    next r hr =>
      obtain ⟨hmem, hsel⟩ := selectRow_eq_some_iff.mp hr
      cases h
      rw [row_build hmem]
      exact ⟨hsel, rfl⟩
  · rintro ⟨hsel, hb⟩
    obtain ⟨hs, -, idx, ho⟩ := selects_iff.mp hsel
    obtain ⟨-, -, -, hb4⟩ := row_hasFormat i
    have ha : x.off.extractLsb' 0 2 = 0 := by rw [ho, Laws.LegalShape.aligned_at _ hb4]
    simp [decode, hs, ha, selectRow_eq_some_iff.mpr ⟨row_mem i, hsel⟩, hb]

end Rows

section Encoding

variable {x y : Xact} {i : Instr}

/-! ## The word of an operation -/

theorem encode_legal (i : Instr) : Laws.LegalShape.Statement i := by
  open Laws.LegalShape in
  cases i with
  | ptConfigure p => exact ptConfigure p
  | ptStart => exact ptStart
  | ptStop => exact ptStop
  | ptStatus => exact ptStatus
  | rtArm d => exact rtArm d
  | rtDisarm => exact rtDisarm
  | rtStatus => exact rtStatus
  | vstEnable b => exact vstEnable b
  | vstSetDuty v => exact vstSetDuty v
  | vstIsEnabled => exact vstIsEnabled
  | vstStatus => exact vstStatus
  | dtArm => exact dtArm
  | dtDisarm => exact dtDisarm
  | dtStatus => exact dtStatus
  | gpInit desc => exact gpInit desc
  | gpWrite desc val => exact gpWrite desc val
  | gpWritePin desc val => exact gpWritePin desc val
  | gpSetPullup desc val => exact gpSetPullup desc val
  | gpChangeInt desc val => exact gpChangeInt desc val
  | cbRegister src handle => exact cbRegister src handle
  | cbRead src => exact cbRead src
  | irqPending => exact irqPending
  | irqTake src => exact irqTake src
  | irqDone src => exact irqDone src
  | cfgSet k v => exact cfgSet k v
  | cfgGet k => exact cfgGet k
  | errStatus => exact errStatus
  | errInfo => exact errInfo
  | rawDir loc => exact rawDir loc
  | rawOut loc => exact rawOut loc
  | rawIn loc => exact rawIn loc
  | rawPue loc => exact rawPue loc
  | rawPcmsk loc => exact rawPcmsk loc
  | invSet loc m => exact invSet loc m
  | invGet loc => exact invGet loc
  | gpRead desc => exact gpRead desc
  | vpResolve desc => exact vpResolve desc
  | vpPol desc => exact vpPol desc

theorem encode_off (i : Instr) : ∃ idx : BitVec i.idxWidth, (encode i).off = offsetAt i.row.base idx := by
  cases i <;> simp only [encode, Xact.write, Xact.read, off_pack, Instr.row, Instr.ctorIdx, Instr.idxWidth]
  case cbRegister src _ | cbRead src => exact ⟨src.bits, rfl⟩
  case cfgSet k _ | cfgGet k => exact ⟨k.bits, rfl⟩
  case rawDir loc | rawOut loc | rawIn loc | rawPue loc | rawPcmsk loc | invSet loc _ | invGet loc =>
    exact ⟨loc, rfl⟩
  case gpRead desc | vpResolve desc | vpPol desc => exact ⟨desc, rfl⟩
  all_goals exact ⟨0, rfl⟩

theorem encode_selected (i : Instr) : i.row.Selects (encode i) :=
  have ⟨hsz, _, hwr⟩ := encode_legal i
  selects_iff.mpr ⟨hsz, hwr, encode_off i⟩

/-- The row of an operation builds it again from its word: every operand is read where it was written. -/
theorem build_encode (i : Instr) : i.row.build (encode i) = i := by
  cases i with
  | ptConfigure p => exact congrArg Instr.ptConfigure (data_pack ..)
  | ptStart => rfl
  | ptStop => rfl
  | ptStatus => rfl
  | rtArm d => exact congrArg Instr.rtArm (data_pack ..)
  | rtDisarm => rfl
  | rtStatus => rfl
  | vstEnable b => exact congrArg Instr.vstEnable (fieldB_pack ..)
  | vstSetDuty v => exact congrArg Instr.vstSetDuty (data_pack ..)
  | vstIsEnabled => rfl
  | vstStatus => rfl
  | dtArm => rfl
  | dtDisarm => rfl
  | dtStatus => rfl
  | gpInit desc => exact congrArg Instr.gpInit (fieldDesc_pack ..)
  | gpWrite desc val => exact congrArg₂ Instr.gpWrite (fieldDesc_pack ..) (fieldVal_pack ..)
  | gpWritePin desc val => exact congrArg₂ Instr.gpWritePin (fieldDesc_pack ..) (fieldVal_pack ..)
  | gpSetPullup desc val => exact congrArg₂ Instr.gpSetPullup (fieldDesc_pack ..) (fieldVal_pack ..)
  | gpChangeInt desc val => exact congrArg₂ Instr.gpChangeInt (fieldDesc_pack ..) (fieldVal_pack ..)
  | cbRegister src handle => exact congrArg₂ Instr.cbRegister (idxSrc_pack (hb := rfl) ..) (data_pack ..)
  | cbRead src => exact congrArg Instr.cbRead (idxSrc_pack (hb := rfl) ..)
  | irqPending => rfl
  | irqTake src => exact congrArg Instr.irqTake (fieldSrc_pack ..)
  | irqDone src => exact congrArg Instr.irqDone (fieldSrc_pack ..)
  | cfgSet k v => exact congrArg₂ Instr.cfgSet (idxCfg_pack (hb := rfl) ..) (data_pack ..)
  | cfgGet k => exact congrArg Instr.cfgGet (idxCfg_pack (hb := rfl) ..)
  | errStatus => rfl
  | errInfo => rfl
  | rawDir loc => exact congrArg Instr.rawDir (idxLoc_pack (hb := rfl) ..)
  | rawOut loc => exact congrArg Instr.rawOut (idxLoc_pack (hb := rfl) ..)
  | rawIn loc => exact congrArg Instr.rawIn (idxLoc_pack (hb := rfl) ..)
  | rawPue loc => exact congrArg Instr.rawPue (idxLoc_pack (hb := rfl) ..)
  | rawPcmsk loc => exact congrArg Instr.rawPcmsk (idxLoc_pack (hb := rfl) ..)
  | invSet loc m => exact congrArg₂ Instr.invSet (idxLoc_pack (hb := rfl) ..) (data_pack ..)
  | invGet loc => exact congrArg Instr.invGet (idxLoc_pack (hb := rfl) ..)
  | gpRead desc => exact congrArg Instr.gpRead (winDesc_pack (hb := rfl) ..)
  | vpResolve desc => exact congrArg Instr.vpResolve (winDesc_pack (hb := rfl) ..)
  | vpPol desc => exact congrArg Instr.vpPol (winDesc_pack (hb := rfl) ..)

theorem decode_encode (i : Instr) : decode (encode i) = .ok i :=
  decode_eq_ok_iff.mpr ⟨encode_selected i, build_encode i⟩

/-- What a row builds holds the index of the word. -/
theorem idx_eq_of_build_eq (h : i.row.build x = i.row.build y) :
    x.off.extractLsb' 2 i.idxWidth = y.off.extractLsb' 2 i.idxWidth := by
  cases i
  case cbRegister => exact (idxSrc_eq_iff ..).mp (Instr.cbRegister.inj h).1
  case cbRead => exact (idxSrc_eq_iff ..).mp (Instr.cbRead.inj h)
  case cfgSet => exact (idxCfg_eq_iff ..).mp (Instr.cfgSet.inj h).1
  case cfgGet => exact (idxCfg_eq_iff ..).mp (Instr.cfgGet.inj h)
  case rawDir => exact (idxLoc_eq_iff ..).mp (Instr.rawDir.inj h)
  case rawOut => exact (idxLoc_eq_iff ..).mp (Instr.rawOut.inj h)
  case rawIn => exact (idxLoc_eq_iff ..).mp (Instr.rawIn.inj h)
  case rawPue => exact (idxLoc_eq_iff ..).mp (Instr.rawPue.inj h)
  case rawPcmsk => exact (idxLoc_eq_iff ..).mp (Instr.rawPcmsk.inj h)
  case invSet => exact (idxLoc_eq_iff ..).mp (Instr.invSet.inj h).1
  case invGet => exact (idxLoc_eq_iff ..).mp (Instr.invGet.inj h)
  case gpRead => exact (winDesc_eq_iff ..).mp (Instr.gpRead.inj h)
  case vpResolve => exact (winDesc_eq_iff ..).mp (Instr.vpResolve.inj h)
  case vpPol => exact (winDesc_eq_iff ..).mp (Instr.vpPol.inj h)
  all_goals exact Subsingleton.elim (α := BitVec 0) _ _

/-- Two words of one operation differ in `DATA` at most. -/
theorem off_eq_of_decode_eq (hx : decode x = .ok i) (hy : decode y = .ok i) : x.off = y.off := by
  obtain ⟨hsx, hbx⟩ := decode_eq_ok_iff.mp hx
  obtain ⟨hsy, hby⟩ := decode_eq_ok_iff.mp hy
  obtain ⟨-, -, a, ha⟩ := selects_iff.mp hsx
  obtain ⟨-, -, b, hb⟩ := selects_iff.mp hsy
  obtain ⟨-, -, hbase, -⟩ := row_hasFormat i
  have hidx := idx_eq_of_build_eq (hbx.trans hby.symm)
  rw [ha, hb, extractLsb'_offsetAt hbase (idxWidth_le i), extractLsb'_offsetAt hbase (idxWidth_le i)] at hidx
  rw [ha, hb, hidx]

end Encoding

section Ignored

variable {x y : Xact} {i : Instr} {off : BitVec 12}

/-! ## The bits a format ignores (30_encoding.md R74) -/

/-- The offsets of the write formats that ignore data bits (30_encoding.md R71, R80). -/
def offsetsWN : List (BitVec 12) := [0x004, 0x008, 0x014, 0x030, 0x034]
def offsetsWS : List (BitVec 12) := [0x074, 0x078]
def offsetsWG : List (BitVec 12) := [0x040, 0x044, 0x048, 0x04C, 0x050]
def ignoringOffsets : List (BitVec 12) := offsetsWN ++ [0x020] ++ offsetsWS ++ offsetsWG

/-- The format of `x` ignores data bits, and the data bits it does not ignore are the same in `y`. -/
def SameUsedData (x y : Xact) : Prop :=
  x.wr = 0 ∨ x.off ∈ offsetsWN ∨ (x.off = 0x020 ∧ x.data.getLsbD 0 = y.data.getLsbD 0) ∨
    (x.off ∈ offsetsWS ∧ x.data.extractLsb' 0 2 = y.data.extractLsb' 0 2) ∨
    (x.off ∈ offsetsWG ∧
      x.data.extractLsb' 24 8 = y.data.extractLsb' 24 8 ∧ x.data.extractLsb' 0 16 = y.data.extractLsb' 0 16)

theorem offsetsWS_only : ∀ o ∈ offsetsWS, o ∉ offsetsWN ∧ o ≠ 0x020 ∧ o ∉ offsetsWG :=
  fun o ho => of_decide_eq_true (List.all_eq_true.mp (by decide :
    offsetsWS.all (fun o => decide (o ∉ offsetsWN ∧ o ≠ 0x020 ∧ o ∉ offsetsWG)) = true) o ho)

theorem offsetsWG_only : ∀ o ∈ offsetsWG, o ∉ offsetsWN ∧ o ≠ 0x020 ∧ o ∉ offsetsWS :=
  fun o ho => of_decide_eq_true (List.all_eq_true.mp (by decide :
    offsetsWG.all (fun o => decide (o ∉ offsetsWN ∧ o ≠ 0x020 ∧ o ∉ offsetsWS)) = true) o ho)

theorem SameUsedData.off_mem (h : SameUsedData x y) (hw : x.wr ≠ 0) : x.off ∈ ignoringOffsets := by
  simp only [ignoringOffsets, List.mem_append, List.mem_singleton]
  rcases h with h | h | ⟨h, -⟩ | ⟨h, -⟩ | ⟨h, -⟩ <;> tauto

theorem SameUsedData.fieldB (h : SameUsedData x y) (hw : x.wr ≠ 0) (ho : x.off = 0x020) : x.fieldB = y.fieldB := by
  rw [fieldB_eq, fieldB_eq]
  rcases h with h | h | ⟨-, h⟩ | ⟨h, -⟩ | ⟨h, -⟩
  · exact absurd h hw
  · exact absurd (ho ▸ h) (by decide)
  · exact h
  · exact absurd (ho ▸ h) (by decide)
  · exact absurd (ho ▸ h) (by decide)

theorem SameUsedData.fieldSrc (h : SameUsedData x y) (hw : x.wr ≠ 0) (ho : x.off ∈ offsetsWS) :
    x.fieldSrc = y.fieldSrc := by
  obtain ⟨hWN, hWB, hWG⟩ := offsetsWS_only _ ho
  rw [fieldSrc_eq, fieldSrc_eq]
  rcases h with h | h | ⟨h, -⟩ | ⟨-, h⟩ | ⟨h, -⟩
  · exact absurd h hw
  · exact absurd h hWN
  · exact absurd h hWB
  · rw [h]
  · exact absurd h hWG

theorem SameUsedData.fieldsWG (h : SameUsedData x y) (hw : x.wr ≠ 0) (ho : x.off ∈ offsetsWG) :
    x.fieldDesc = y.fieldDesc ∧ x.fieldVal = y.fieldVal := by
  obtain ⟨hWN, hWB, hWS⟩ := offsetsWG_only _ ho
  rw [fieldDesc_eq, fieldDesc_eq, fieldVal_eq, fieldVal_eq]
  rcases h with h | h | ⟨h, -⟩ | ⟨h, -⟩ | ⟨-, h⟩
  · exact absurd h hw
  · exact absurd h hWN
  · exact absurd h hWB
  · exact absurd h hWS
  · exact h

theorem SameUsedData.fieldDesc (h : SameUsedData x y) (hw : x.wr ≠ 0) (ho : x.off ∈ offsetsWG) :
    x.fieldDesc = y.fieldDesc := (h.fieldsWG hw ho).1

theorem SameUsedData.fieldVal (h : SameUsedData x y) (hw : x.wr ≠ 0) (ho : x.off ∈ offsetsWG) :
    x.fieldVal = y.fieldVal := (h.fieldsWG hw ho).2

/-- Where the words of an operation stand, by what its format takes from `DATA`. -/
def Instr.OffsetFits (i : Instr) (off : BitVec 12) : Prop :=
  match i with
  | .ptConfigure _ | .rtArm _ | .vstSetDuty _ | .cbRegister _ _ | .cfgSet _ _ | .invSet _ _ => off ∉ ignoringOffsets
  | .vstEnable _ => off = 0x020
  | .irqTake _ | .irqDone _ => off ∈ offsetsWS
  | .gpInit _ | .gpWrite _ _ | .gpWritePin _ _ | .gpSetPullup _ _ | .gpChangeInt _ _ => off ∈ offsetsWG
  | _ => True

theorem not_mem_of_and_eq {m b : BitVec 12} {l : List (BitVec 12)} (hl : b ∉ l.map (· &&& m))
    (h : off &&& m = b) : off ∉ l := fun hmem => hl (List.mem_map.mpr ⟨off, hmem, h⟩)

/-- The formats without an index fix the whole offset. -/
theorem eq_of_and_not_idxMask_zero {b : BitVec 12} (h : off &&& ~~~idxMask 0 = b) : off = b := by
  rw [← h]
  exact BitVec.and_allOnes.symm

theorem mem_of_and_not_idxMask_zero {b : BitVec 12} {l : List (BitVec 12)} (hb : b ∈ l)
    (h : off &&& ~~~idxMask 0 = b) : off ∈ l := eq_of_and_not_idxMask_zero h ▸ hb

theorem offsetFits_of_selects (h : i.row.Selects x) : i.OffsetFits x.off := by
  obtain ⟨-, -, hoff⟩ := selects_iff_and.mp h
  cases i <;> dsimp only [Instr.row, Instr.ctorIdx, Instr.idxWidth] at hoff
  case ptConfigure | rtArm | vstSetDuty | cbRegister | cfgSet | invSet => exact not_mem_of_and_eq (by decide) hoff
  case vstEnable => exact eq_of_and_not_idxMask_zero hoff
  case irqTake | irqDone | gpInit | gpWrite | gpWritePin | gpSetPullup | gpChangeInt =>
    exact mem_of_and_not_idxMask_zero (by decide) hoff
  all_goals trivial

/-- Two words with one header that agree on the used data bits have the same operands. -/
theorem build_congr (hsel : i.row.Selects x) (ho : x.off = y.off) (hd : SameUsedData x y) :
    i.row.build x = i.row.build y := by
  have hfit := offsetFits_of_selects hsel
  obtain ⟨-, hwr, -⟩ := selects_iff.mp hsel
  have hsrc : x.idxSrc = y.idxSrc := (idxSrc_eq_iff ..).mpr (by rw [ho])
  have hcfg : x.idxCfg = y.idxCfg := (idxCfg_eq_iff ..).mpr (by rw [ho])
  have hloc : x.idxLoc = y.idxLoc := (idxLoc_eq_iff ..).mpr (by rw [ho])
  have hdesc : x.winDesc = y.winDesc := (winDesc_eq_iff ..).mpr (by rw [ho])
  have hwrite : i.isWrite = true → x.wr ≠ 0 := fun hi => by
    rw [hwr, hi]
    decide
  cases i
  case ptConfigure | rtArm | vstSetDuty | cbRegister | cfgSet | invSet => exact absurd (hd.off_mem (hwrite rfl)) hfit
  case vstEnable => exact congrArg Instr.vstEnable (hd.fieldB (hwrite rfl) hfit)
  case irqTake => exact congrArg Instr.irqTake (hd.fieldSrc (hwrite rfl) hfit)
  case irqDone => exact congrArg Instr.irqDone (hd.fieldSrc (hwrite rfl) hfit)
  case gpInit => exact congrArg Instr.gpInit (hd.fieldDesc (hwrite rfl) hfit)
  case gpWrite => exact congrArg₂ Instr.gpWrite (hd.fieldDesc (hwrite rfl) hfit) (hd.fieldVal (hwrite rfl) hfit)
  case gpWritePin => exact congrArg₂ Instr.gpWritePin (hd.fieldDesc (hwrite rfl) hfit) (hd.fieldVal (hwrite rfl) hfit)
  case gpSetPullup => exact congrArg₂ Instr.gpSetPullup (hd.fieldDesc (hwrite rfl) hfit) (hd.fieldVal (hwrite rfl) hfit)
  case gpChangeInt => exact congrArg₂ Instr.gpChangeInt (hd.fieldDesc (hwrite rfl) hfit) (hd.fieldVal (hwrite rfl) hfit)
  case cbRead => exact congrArg Instr.cbRead hsrc
  case cfgGet => exact congrArg Instr.cfgGet hcfg
  case rawDir => exact congrArg Instr.rawDir hloc
  case rawOut => exact congrArg Instr.rawOut hloc
  case rawIn => exact congrArg Instr.rawIn hloc
  case rawPue => exact congrArg Instr.rawPue hloc
  case rawPcmsk => exact congrArg Instr.rawPcmsk hloc
  case invGet => exact congrArg Instr.invGet hloc
  case gpRead => exact congrArg Instr.gpRead hdesc
  case vpResolve => exact congrArg Instr.vpResolve hdesc
  case vpPol => exact congrArg Instr.vpPol hdesc
  all_goals rfl

theorem selectRow_congr (hh : x.header = y.header) : selectRow x = selectRow y := by
  apply Option.ext
  intro r
  rw [selectRow_eq_some_iff, selectRow_eq_some_iff]
  refine and_congr_right fun hr => ?_
  rw [← row_build hr 0]
  exact selects_congr hh

/-- Words with one header decode alike when the row they select builds the same from both. -/
theorem decode_congr (hh : x.header = y.header)
    (hb : ∀ i : Instr, i.row.Selects x → i.row.build x = i.row.build y) : decode x = decode y := by
  unfold decode
  rw [sz_eq_header, off_eq_header, hh, ← sz_eq_header, ← off_eq_header, ← selectRow_congr hh]
  cases hr : selectRow x with
  | none => rfl
  | some r =>
    obtain ⟨hmem, hsel⟩ := selectRow_eq_some_iff.mp hr
    have hrow := row_build hmem x
    have hbuild := hb (r.build x) (by rwa [hrow])
    rw [hrow] at hbuild
    simp only [hbuild]

end Ignored

end Sys2Proof

/-! # Transactions (30_encoding.md R73) -/

namespace Sys2Proof.Machine

section Transactions

variable {s : State} {x y : Xact} {i : Instr}

theorem bus_of_decode_ok (h : decode x = .ok i) : bus x s = exec i s := by
  unfold bus
  rw [h]

theorem step_bus {es : List Event} (h : s.schedule = .bus x :: es) : step s = bus x (s.setSchedule es) := by
  unfold step
  rw [fetch_cons s h]

theorem decode_of_decodeTableWord {nbits w : Nat} (h : decodeTableWord nbits w = some i) :
    decode (BitVec.ofNat 47 (w % 2 ^ nbits)) = .ok i := by
  unfold decodeTableWord at h
  split at h
  next hlt =>
    cases hd : decode (BitVec.ofNat 47 (w % 2 ^ nbits)) with
    | error e =>
      rw [hd] at h
      cases h
    | ok j =>
      rw [hd] at h
      cases h
      rfl
  next => cases h

/-- What an illegal word records is in its header. -/
theorem illegal_congr (hh : x.header = y.header) : illegal x s = illegal y s := by
  simp only [illegal, fail, ErrRecord.record, errInfoOf, sz_eq_header, wr_eq_header, off_eq_header, hh]

theorem bus_congr (hh : x.header = y.header) (hd : decode x = decode y) : bus x s = bus y s := by
  unfold bus
  rw [hd, illegal_congr hh]

end Transactions

/-- Settles O2: the row of an operation selects its word (`encode_selected`) and builds it again (`build_encode`). -/
theorem decodeEncodeRoundTrip : Obligations.DecodeEncodeRoundTrip := by
  unfold Obligations.DecodeEncodeRoundTrip
  exact decode_encode

/-- Settles O3: the word of `i` decodes to `i` too, and the row of `i` fixes all of the header but the index, which
`i` holds. -/
theorem encodeRecoversHeader : Obligations.EncodeRecoversHeader := by
  unfold Obligations.EncodeRecoversHeader
  intro x i hx
  obtain ⟨hsel, -⟩ := decode_eq_ok_iff.mp hx
  obtain ⟨hsz, hwr, -⟩ := selects_iff.mp hsel
  obtain ⟨hsz', -, hwr'⟩ := encode_legal i
  exact ⟨hsz'.trans hsz.symm, hwr'.trans hwr.symm, off_eq_of_decode_eq (decode_encode i) hx⟩

/-- Settles O4: any two rows want different values of a bit that both look at. -/
theorem mapRowsDisjoint : Obligations.MapRowsDisjoint := by
  unfold Obligations.MapRowsDisjoint
  exact opMap_disjoint

/-- Settles O5: the header selects the row, and the operands it builds are in the bits that its format uses. -/
theorem ignoredBitsHaveNoEffect : Obligations.IgnoredBitsHaveNoEffect := by
  unfold Obligations.IgnoredBitsHaveNoEffect
  intro x y hh hd
  have ho : x.off = y.off := by rw [off_eq_header, hh, ← off_eq_header]
  have hdec : decode x = decode y := decode_congr hh fun _ hsel => build_congr hsel ho hd
  exact ⟨hdec, fun s => bus_congr hh hdec⟩

/-- Settles O1: a step on a transaction is `bus`, and `bus` on a word that decodes is `exec`. -/
theorem stepRunsDecodedTransaction : Obligations.StepRunsDecodedTransaction := by
  unfold Obligations.StepRunsDecodedTransaction
  intro s x es i hs hx
  refine ⟨(step_bus hs).trans (bus_of_decode_ok hx), fun nbits w hw => ?_⟩
  have hstep : step (s.withFetchWord nbits w) = bus (BitVec.ofNat 47 (w % 2 ^ nbits)) s := step_bus rfl
  rw [hstep, bus_of_decode_ok (decode_of_decodeTableWord hw)]

/-- Settles O6: eleven of the words are words of `encode`; the other is that of VST.ENABLE with its ignored bits set. -/
theorem sampleWordsDecode : Obligations.SampleWordsDecode := by
  unfold Obligations.SampleWordsDecode
  exact ⟨decode_encode (.ptConfigure 1200), decode_encode (.gpRead 2), decode_encode (.rtArm 80), rfl,
    decode_encode .dtArm, decode_encode (.gpSetPullup 5 1), decode_encode (.vpPol 5),
    decode_encode (.cbRegister .pulse 0x1000), decode_encode (.irqDone .debounce),
    decode_encode (.cfgSet .debounce 100000), decode_encode (.invSet 2 0x20), decode_encode (.rawPcmsk 1)⟩

end Sys2Proof.Machine

/-! # The descriptor windows (40_virtual_port_model.md R90 to R94) -/

namespace Sys2Proof

section WindowWords

variable {x : Xact} {i : Instr}

/-- No write is mapped in the upper half of the register space (20_memory.md R51): its rows have bit 11 of the offset
clear and look at it. -/
theorem opMap_write_msb : ∀ r ∈ opMap, (r.build 0).isWrite = true →
    r.base.msb = false ∧ (idxMask (r.build 0).idxWidth).msb = false := by decide

theorem off_msb_of_write (hx : decode x = .ok i) (hi : i.isWrite = true) : x.off.msb = false := by
  obtain ⟨hsel, -⟩ := decode_eq_ok_iff.mp hx
  obtain ⟨-, -, hoff⟩ := selects_iff_and.mp hsel
  have hrow := opMap_write_msb i.row (row_mem i)
  rw [isWrite_build, idxWidth_build] at hrow
  obtain ⟨hbase, hidx⟩ := hrow hi
  have hmsb := congrArg BitVec.msb hoff
  rwa [BitVec.msb_and, BitVec.msb_not, hidx, hbase, Bool.not_false, decide_eq_true (by decide : 0 < 12),
    Bool.true_and, Bool.and_true] at hmsb

/-- A write to a descriptor window is no operation (40_virtual_port_model.md R94). -/
theorem decode_write_window {off : BitVec 12} (hoff : 0x800 ≤ off.toNat) (data : Word) :
    ∃ c, decode (Xact.pack 2 1 off data) = .error c := by
  have hmsb : off.msb = true := BitVec.msb_eq_true_iff_two_mul_ge.mpr (by omega)
  cases hd : decode (Xact.pack 2 1 off data) with
  | error c => exact ⟨c, rfl⟩
  | ok i =>
    obtain ⟨hsel, -⟩ := decode_eq_ok_iff.mp hd
    obtain ⟨-, hwr, -⟩ := selects_iff.mp hsel
    have hi : i.isWrite = true := BitVec.ofBool_eq_iff_eq.mp (hwr.symm.trans (wr_pack ..))
    have hlow := off_msb_of_write hd hi
    rw [off_pack, hmsb] at hlow
    cases hlow

/-- A read ignores `DATA` (30_encoding.md R71, R74). -/
theorem decode_read_data (off : BitVec 12) (data : Word) :
    decode (Xact.pack 2 0 off data) = decode (Xact.read off) := by
  have hh : (Xact.pack 2 0 off data).header = (Xact.read off).header := header_pack 2 0 off data
  refine decode_congr hh fun i hsel => build_congr hsel ?_ (.inl (wr_pack ..))
  rw [off_eq_header, hh, ← off_eq_header]

end WindowWords

end Sys2Proof

namespace Sys2Proof.Machine

section DescriptorTable

variable {s t u : State} {x : Xact} {i : Instr} {e : Event} {d : Descriptor} {desc : DescIdx}

theorem bus_of_decode_error {c : Illegal} (h : decode x = .error c) : bus x s = illegal x s := by
  unfold bus
  rw [h]

/-! The parameters, the descriptor table among them, are kept by every event (log 1). -/

theorem vstTick_params (s : State) : (vstTick s).params = s.params := by
  rcases vstTick_cases s with ⟨_, h⟩ | ⟨_, h⟩ <;> rw [h]
  exact setVst_params s _

theorem dtTick_params (s : State) : (dtTick s).params = s.params := by
  rcases dtTick_cases s with ⟨_, h⟩ | ⟨_, _, h⟩ | ⟨_, h⟩ <;> rw [h]
  · exact setDt_params s _
  · rw [fire_params, setDt_params]

theorem tickT_params (s : State) : (tickT s).params = s.params := by
  obtain ⟨-, hpt, -⟩ := ptTick_keeps s
  obtain ⟨-, hrt, -⟩ := rtTick_keeps (ptTick s)
  exact hrt.trans hpt

theorem padEvent_params (s : State) (loc : Loc) (v : BitVec 16) : (padEvent loc v s).params = s.params := by
  rcases padEvent_cases s loc v with ⟨_, h⟩ | ⟨_, h | h⟩ <;> rw [h]
  · rw [fire_params, setPad_params]
  · exact setPad_params s loc _

theorem Writes.params_eq (h : Writes s i u) : u.params = s.params := by
  cases h <;> simp

theorem Happens.params_eq (he : Happens s e t) : t.params = s.params := by
  cases he with
  | fails x y c => exact fail_params s c y
  | reads x v => exact setAnswer_params s _
  | writes x _ hw => exact (setAnswer_params _ _).trans hw.params_eq
  | tickT => exact tickT_params s
  | tickV => exact vstTick_params s
  | tickD => exact dtTick_params s
  | pad loc v => exact padEvent_params s loc v
  | reset => rfl

theorem step_params (h : step s = .next t) : t.params = s.params :=
  step_induct (P := fun u => u.params = s.params) (fun _ _ hs => hs) (fun _ _ _ hs he => he.params_eq.trans hs) rfl h

/-! What a window read answers: a word of the entry, which stands in the parameters. -/

/-- A window read depends on the parameters only. -/
theorem sameAnswer_readWindow (h : t.params = s.params) (word : Descriptor → Word) :
    SameAnswer (readWindow i desc word s) (readWindow i desc word t) := by
  unfold readWindow
  rw [h]
  split
  · exact sameAnswer_raise _
  · exact sameAnswer_okRead rfl

theorem readWindow_of_ndesc_le (h : s.params.ndesc ≤ desc.toNat) (word : Descriptor → Word) :
    readWindow i desc word s = raise .busErr i s := if_pos h

theorem readWindow_of_entry (h : s.params.profile.desc[desc.toNat]? = some d) (word : Descriptor → Word) :
    readWindow i desc word s = okRead (word d) s := by
  obtain ⟨hlt, -⟩ := List.getElem?_eq_some_iff.mp h
  have hin : ¬ s.params.ndesc ≤ desc.toNat := Nat.not_le_of_lt hlt
  rw [readWindow, if_neg hin, descAt, h, Option.getD_some]

/-! The two words of an entry (10_state.md R35, R36). -/

theorem resolveWord_of_not_valid (h : d.valid = false) : resolveWord d = 0 := by
  simp [resolveWord, h]

theorem polWord_of_not_valid (h : d.valid = false) : polWord d = 0 := by
  simp [polWord, h]

theorem polWord_of_valid (h : d.valid = true) : polWord d = d.pol.setWidth 32 := if_pos h

/-- The fields of the `VP.RESOLVE` word of a bound entry, the highest first. -/
theorem resolveWord_of_valid (h : d.valid = true) : resolveWord d =
    1#1 ++ kindBit d.kind ++ dirBit d.dir ++ 0#2 ++ d.loc ++ d.bitpos ++ 0#4 ++ d.mask := by
  rw [resolveWord, if_pos h, h]
  rfl

theorem kindBit_set_iff (k : Kind) : (kindBit k).getLsbD 0 = true ↔ k = .group := by
  cases k <;> decide

theorem dirBit_set_iff (dir : Dir) : (dirBit dir).getLsbD 0 = true ↔ dir = .output := by
  cases dir <;> decide

theorem resolveWord_flags (h : d.valid = true) : (resolveWord d).getLsbD 31 = true ∧
    ((resolveWord d).getLsbD 30 = true ↔ d.kind = .group) ∧ ((resolveWord d).getLsbD 29 = true ↔ d.dir = .output) := by
  rw [resolveWord_of_valid h, ← kindBit_set_iff, ← dirBit_set_iff]
  simp only [BitVec.getLsbD_append, Nat.reduceLT, Nat.reduceSub, reduceIte, and_true]
  rfl

theorem resolveWord_fields (h : d.valid = true) : (resolveWord d).extractLsb' 27 2 = 0 ∧
    (resolveWord d).extractLsb' 24 3 = d.loc ∧ (resolveWord d).extractLsb' 20 4 = d.bitpos ∧
    (resolveWord d).extractLsb' 16 4 = 0 ∧ (resolveWord d).extractLsb' 0 16 = d.mask := by
  rw [resolveWord_of_valid h]
  simp only [BitVec.extractLsb'_append_eq_of_le, BitVec.extractLsb'_append_eq_right, Nat.reduceLeDiff, Nat.reduceSub,
    BitVec.ofNat_eq_ofNat, and_self]

end DescriptorTable

/-- Settles O14: a step keeps the parameters, and a window read answers from them; a write to a window decodes to no
operation. -/
theorem descriptorTableImmutable : Obligations.DescriptorTableImmutable := by
  unfold Obligations.DescriptorTableImmutable
  refine ⟨fun s t hstep => ?_, fun s es off data hoff hs => ?_⟩
  · have hp := step_params hstep
    exact ⟨hp, fun desc => ⟨sameAnswer_readWindow hp resolveWord, sameAnswer_readWindow hp polWord⟩⟩
  · obtain ⟨c, hc⟩ := decode_write_window hoff data
    exact (step_bus hs).trans (bus_of_decode_error hc)

/-- Settles O50: the reads of the windows are the words of the two operations whatever their `DATA`, and the fields are
those of `resolveWord` and `polWord`. -/
theorem descriptorWindows : Obligations.DescriptorWindows := by
  unfold Obligations.DescriptorWindows
  refine ⟨fun desc data => ⟨?_, ?_⟩, fun s desc => ⟨fun hout => ?_, fun d hd => ?_⟩⟩
  · exact (decode_read_data _ _).trans (decode_encode (.vpResolve desc))
  · exact (decode_read_data _ _).trans (decode_encode (.vpPol desc))
  · exact ⟨readWindow_of_ndesc_le hout resolveWord, readWindow_of_ndesc_le hout polWord⟩
  · refine ⟨resolveWord d, polWord d, readWindow_of_entry hd resolveWord, readWindow_of_entry hd polWord,
      fun hv => ⟨resolveWord_of_not_valid hv, polWord_of_not_valid hv⟩, fun hv => ?_⟩
    obtain ⟨hvalid, hkind, hdir⟩ := resolveWord_flags hv
    obtain ⟨hz, hloc, hbit, hz', hmask⟩ := resolveWord_fields hv
    exact ⟨hvalid, hkind, hdir, hz, hloc, hbit, hz', hmask, polWord_of_valid hv⟩

end Sys2Proof.Machine

/-! # Transaction words with any data (30_encoding.md R71, R74) -/

namespace Sys2Proof

section WriteWords

variable {i : Instr} {off : BitVec 12} {v : Word}

/-- A write to the offset of `i` is `i` when the data word holds its operands. -/
theorem decode_write_of_build (he : encode i = Xact.write off v) (data : Word)
    (hb : i.row.build (Xact.pack 2 1 off data) = i) : decode (Xact.pack 2 1 off data) = .ok i := by
  have hh : (Xact.pack 2 1 off data).header = (encode i).header := by
    rw [he]
    exact (header_pack 2 1 off data).trans (header_pack 2 1 off v).symm
  exact decode_eq_ok_iff.mpr ⟨(selects_congr hh).mpr (encode_selected i), hb⟩

/-- The descriptor index of a packed word of format `WG`. -/
theorem fieldDesc_of_pack (data : Word) : (Xact.pack 2 1 off data).fieldDesc = data.extractLsb' 24 8 := by
  rw [fieldDesc_eq, data_pack]

/-- The operations of format `WG` that use `val`: the operands are the two fields of the data word. -/
theorem decode_writeWG {op : DescIdx → BitVec 16 → Instr}
    (he : ∀ desc val, encode (op desc val) = Xact.write off (dataWG desc val))
    (hb : ∀ desc val x, (op desc val).row.build x = op x.fieldDesc x.fieldVal) (data : Word) :
    decode (Xact.pack 2 1 off data) = .ok (op (data.extractLsb' 24 8) (data.extractLsb' 0 16)) := by
  refine decode_write_of_build (he _ _) data ?_
  rw [hb, fieldDesc_of_pack, fieldVal_eq, data_pack]

end WriteWords

/-! An operation that takes every kind and every direction refuses only what is not bound (41_gpio_engine.md R100). -/

theorem Kind.mem_all (k : Kind) : k ∈ [Kind.pin, .group] := by cases k <;> decide
theorem Dir.mem_all (x : Dir) : x ∈ [Dir.input, .output] := by cases x <;> decide

end Sys2Proof

/-! # The GPIO Engine: levels, latches and what an operation answers (41_gpio_engine.md R100 to R108) -/

namespace Sys2Proof.Machine

section Gpio

variable {s : State} {d : Descriptor} {desc : DescIdx} {val : BitVec 16} {P : Params} {r : PortRegs} {loc : Loc}

/-! Polarity and masks, bit by bit (41_gpio_engine.md R101). -/

theorem toggle_bit (d : Descriptor) (inv : Port) (b : Nat) :
    (toggle d inv).getLsbD b = ((d.pol.getLsbD b ^^ inv.getLsbD b) && d.mask.getLsbD b) := by
  rw [toggle, BitVec.getLsbD_and, BitVec.getLsbD_xor]

/-- A mask write whose flag is a condition. -/
theorem maskWrite_decide (reg m : Port) (p : Prop) [Decidable p] :
    maskWrite reg m (decide p) = if p then reg ||| m else reg &&& ~~~m := by
  simp only [maskWrite, decide_eq_true_eq]

/-- The mask of a bound pin is its one bit (10_state.md R19). -/
theorem mask_of_pin (hP : P.Ok) (hd : P.profile.desc[desc.toNat]? = some d) (hv : d.valid = true)
    (hk : d.kind = .pin) : d.mask = 1#16 <<< d.bitpos.toNat := by
  obtain ⟨_, hdesc, _⟩ := hP.profile
  obtain ⟨_, _, _, _, hpin, _⟩ := hdesc d (List.mem_of_getElem? hd) hv
  exact (hpin hk).2

theorem mask_bit_of_pin (hm : d.mask = 1#16 <<< d.bitpos.toNat) {b : Nat} (hb : b < 16) :
    d.mask.getLsbD b = decide (b = d.bitpos.toNat) := by
  rw [hm, pinMask_bit _ hb]

/-- The mask of a bound entry lies in the port (10_state.md R19). -/
theorem lt_portW_of_mask (hP : P.Ok) (hd : P.profile.desc[desc.toNat]? = some d) (hv : d.valid = true)
    {b : Nat} (hb : b < 16) (hm : d.mask.getLsbD b = true) : b < P.portW := by
  obtain ⟨-, hfits, -⟩ := gpCheck_ok hP (gpCheck_eq_some hd hv (Kind.mem_all _) (Dir.mem_all _))
  by_contra hw
  rw [portFits_iff.mp hfits b hb (Nat.le_of_not_lt hw)] at hm
  cases hm

/-! The latch after a write. -/

/-- `OUT[d.loc]` after GP.WRITE, from the registers before (41_gpio_engine.md R103); `exec_gpWrite` ties it to the
model. -/
def groupLatch (P : Params) (d : Descriptor) (r : PortRegs) (val : BitVec 16) : Port :=
  maskMerge r.out d.mask (portBits P val ^^^ toggle d r.inv)

/-- `OUT[d.loc]` after GP.WRITE_PIN, from the registers before (41_gpio_engine.md R104); `exec_gpWritePin` ties it to
the model. -/
def pinLatch (d : Descriptor) (r : PortRegs) (val : BitVec 16) : Port :=
  (r.out &&& ~~~d.mask) |||
    ((BitVec.ofBool (val.getLsbD 0 ^^ (toggle d r.inv).getLsbD d.bitpos.toNat)).setWidth 16 <<< d.bitpos.toNat)

theorem groupLatch_bit {b : Nat} (hb : b < 16) : (groupLatch P d r val).getLsbD b =
    if d.mask.getLsbD b then ((val.getLsbD b && decide (b < P.portW)) ^^ (d.pol.getLsbD b ^^ r.inv.getLsbD b))
    else r.out.getLsbD b := by
  rw [groupLatch, maskMerge_bit, BitVec.getLsbD_xor, portBits_bit P val hb, toggle_bit]
  split
  next hm => rw [hm, Bool.and_true]
  next => rfl

/-- A truth value put at the place of a pin. -/
theorem flagAt_bit (c : Bool) (k : BitVec 4) {b : Nat} (hb : b < 16) :
    ((BitVec.ofBool c).setWidth 16 <<< k.toNat).getLsbD b = (c && decide (b = k.toNat)) := by
  cases c with
  | false => simp
  | true => exact pinMask_bit k hb

theorem pinLatch_bit (hm : d.mask = 1#16 <<< d.bitpos.toNat) {b : Nat} (hb : b < 16) : (pinLatch d r val).getLsbD b =
    if b = d.bitpos.toNat then (val.getLsbD 0 ^^ (d.pol.getLsbD b ^^ r.inv.getLsbD b)) else r.out.getLsbD b := by
  rw [pinLatch, BitVec.getLsbD_or, BitVec.getLsbD_and, BitVec.getLsbD_not, flagAt_bit _ _ hb, toggle_bit,
    mask_bit_of_pin hm hb, mask_bit_of_pin hm d.bitpos.isLt]
  by_cases h : b = d.bitpos.toNat
  · simp [h]
  · simp [h, hb]

/-! The level a descriptor reads (41_gpio_engine.md R105). -/

/-- What GP.READ looks at: the latch of an output, the pin levels of an input. -/
def State.readLevel (s : State) (d : Descriptor) : Port := if d.dir = .output then (s.port d.loc).out else s.pinlvl d.loc

theorem readLevel_bit (b : Nat) : (s.readLevel d).getLsbD b =
    if d.dir = .output then (s.port d.loc).out.getLsbD b else (s.pinlvl d.loc).getLsbD b :=
  apply_ite (fun v : Port => v.getLsbD b) ..

theorem gpReadWord_group (hk : d.kind = .group) {b : Nat} (hb : b < 32) : (gpReadWord s d).getLsbD b =
    (d.mask.getLsbD b && ((s.readLevel d).getLsbD b ^^ (d.pol.getLsbD b ^^ (s.port d.loc).inv.getLsbD b))) := by
  rw [gpReadWord, if_pos hk, BitVec.getLsbD_setWidth, BitVec.getLsbD_and, BitVec.getLsbD_xor, toggle_bit,
    ← State.readLevel, decide_eq_true hb]
  cases d.mask.getLsbD b <;> simp

/-- A truth value as a word. -/
theorem flagWord_bit (c : Bool) (j : Nat) : (if c then 1 else 0 : Word).getLsbD j = (c && decide (j = 0)) := by
  cases c <;> simp [BitVec.getLsbD_one]

theorem gpReadWord_pin (hk : d.kind = .pin) (hm : d.mask = 1#16 <<< d.bitpos.toNat) : gpReadWord s d =
    if (s.readLevel d).getLsbD d.bitpos.toNat ^^
      (d.pol.getLsbD d.bitpos.toNat ^^ (s.port d.loc).inv.getLsbD d.bitpos.toNat) then 1 else 0 := by
  have hword : gpReadWord s d = (((s.readLevel d ^^^ toggle d (s.port d.loc).inv) &&& d.mask) >>>
      d.bitpos.toNat).setWidth 32 := if_neg (by rw [hk]; decide)
  have hbit (j : Nat) : d.mask.getLsbD (d.bitpos.toNat + j) = decide (j = 0) := by
    by_cases hj : d.bitpos.toNat + j < 16
    · simp [mask_bit_of_pin hm hj]
    · have := d.bitpos.isLt
      rw [BitVec.getLsbD_of_ge _ _ (by omega), decide_eq_false (by omega)]
  rw [hword]
  apply BitVec.eq_of_getLsbD_eq
  intro j hj
  rw [BitVec.getLsbD_setWidth, BitVec.getLsbD_ushiftRight, BitVec.getLsbD_and, BitVec.getLsbD_xor, toggle_bit, hbit,
    flagWord_bit, decide_eq_true hj]
  cases j <;> simp

/-! Pin-change detection and the pad event (41_gpio_engine.md R108, R109). -/

/-- No level changed under a mask exactly when every bit of the mask shows the same level. -/
theorem masked_xor_eq_zero_iff (old new m : Port) :
    (old ^^^ new) &&& m = 0 ↔ ∀ b, m.getLsbD b = true → old.getLsbD b = new.getLsbD b := by
  constructor
  · intro h b hb
    have hbit : ((old ^^^ new) &&& m).getLsbD b = (0#16).getLsbD b := congrArg (fun v : Port => v.getLsbD b) h
    simpa [hb] using hbit
  · intro h
    apply BitVec.eq_of_getLsbD_eq
    intro b _
    cases hm : m.getLsbD b with
    | false => simp [hm]
    | true => simp [hm, h b hm]

/-- A port write that keeps the change mask answers `OK`, and fires CHANGE when a level under that mask changed. -/
theorem ok_writePort (h : r.pcmsk = (s.port loc).pcmsk) : ok (writePort s loc r) = .next
    { (if (s.pinlvl loc ^^^ (s.setPort loc r).pinlvl loc) &&& (s.port loc).pcmsk ≠ 0 then fire .change (s.setPort loc r)
        else s.setPort loc r) with answer := ⟨.ok, 0⟩ } := by
  rw [writePort, pcDetect, setPort_port_same, h]
  rfl

theorem step_pad {v : BitVec 16} {es : List Event} (h : s.schedule = .pad loc v :: es) :
    step s = .next (padEvent loc v (s.setSchedule es)) := by
  unfold step
  rw [fetch_cons s h]

theorem padEvent_of_lt (h : loc.toNat < s.params.nloc) (v : BitVec 16) : padEvent loc v s =
    pcDetect loc (s.pinlvl loc) ((s.setPad loc (portBits s.params v)).pinlvl loc) (s.setPad loc (portBits s.params v)) :=
  if_neg (Nat.not_le.mpr h)

theorem noChangeMask_iff : noChangeMask s = true ↔ ∀ l : Loc, l.toNat < s.params.nloc → (s.port l).pcmsk = 0 := by
  simp only [noChangeMask, List.all_eq_true, List.mem_finRange, true_implies, Bool.or_eq_true, decide_eq_true_eq]
  constructor
  · intro h l hl
    exact (h l.toFin).resolve_left (Nat.not_le.mpr hl)
  · intro h l
    by_cases hl : l.val < s.params.nloc
    · exact .inr (h (BitVec.ofFin l) hl)
    · exact .inl (Nat.le_of_not_lt hl)

/-! What an operation on a bound entry does. -/

theorem exec_gpWrite (hd : s.params.profile.desc[desc.toNat]? = some d) (hv : d.valid = true) (hk : d.kind = .group)
    (ho : d.dir = .output) : exec (.gpWrite desc val) s =
      ok (writePort s d.loc { s.port d.loc with out := groupLatch s.params d (s.port d.loc) val }) :=
  (Writes.gpWrite desc val d (gpCheck_eq_some hd hv (by simp [hk]) (by simp [ho]))).exec_eq

theorem exec_gpWritePin (hd : s.params.profile.desc[desc.toNat]? = some d) (hv : d.valid = true) (hk : d.kind = .pin)
    (ho : d.dir = .output) : exec (.gpWritePin desc val) s =
      ok (writePort s d.loc { s.port d.loc with out := pinLatch d (s.port d.loc) val }) :=
  (Writes.gpWritePin desc val d (gpCheck_eq_some hd hv (by simp [hk]) (by simp [ho]))).exec_eq

theorem exec_gpRead (hd : s.params.profile.desc[desc.toNat]? = some d) (hv : d.valid = true) :
    exec (.gpRead desc) s = okRead (gpReadWord s d) s := by
  obtain ⟨hlt, -⟩ := List.getElem?_eq_some_iff.mp hd
  have hin : ¬ s.params.ndesc ≤ desc.toNat := Nat.not_le_of_lt hlt
  simp only [exec, execGpRead, if_neg hin, gpCheck_eq_some hd hv (Kind.mem_all _) (Dir.mem_all _)]

/-- An index that is not bound as the operation wants it is `BAD_DESC` (41_gpio_engine.md R100). -/
theorem exec_of_unresolved (i : Instr) (hw : i.WellFormed s.params = true) (hr : i.Resolved s.params = false) :
    exec i s = raise .badDesc i s :=
  exec_eq_raise_iff.mpr (State.errorOf_of_unresolved hw hr)

end Gpio

/-- Settles O41: the direction register takes a mask write, and the port write detects the change. -/
theorem gpioInit : Obligations.GpioInit := by
  unfold Obligations.GpioInit
  refine ⟨fun data => decode_write_of_build rfl data (congrArg Instr.gpInit (fieldDesc_of_pack data)),
    fun s desc => ⟨exec_of_unresolved (.gpInit desc) rfl, fun d hd hv s1 hs1 => ?_⟩⟩
  subst hs1
  rw [← maskWrite_decide, (Writes.gpInit desc d (gpCheck_eq_some hd hv (Kind.mem_all _) (Dir.mem_all _))).exec_eq]
  exact ok_writePort rfl

/-- Settles O42: the bits are those of `groupLatch`. -/
theorem gpioWrite : Obligations.GpioWrite := by
  unfold Obligations.GpioWrite
  refine ⟨decode_writeWG (fun _ _ => rfl) (fun _ _ _ => rfl),
    fun s desc val => ⟨exec_of_unresolved (.gpWrite desc val) rfl, ?_⟩⟩
  intro d hd hv hk ho
  exact ⟨groupLatch s.params d (s.port d.loc) val, _, rfl, fun b hb => groupLatch_bit hb,
    (exec_gpWrite hd hv hk ho).trans (ok_writePort rfl)⟩

/-- Settles O43: the bits are those of `pinLatch`. -/
theorem gpioWritePin : Obligations.GpioWritePin := by
  unfold Obligations.GpioWritePin
  refine ⟨decode_writeWG (fun _ _ => rfl) (fun _ _ _ => rfl),
    fun s desc val hP => ⟨exec_of_unresolved (.gpWritePin desc val) rfl, ?_⟩⟩
  intro d hd hv hk ho
  exact ⟨pinLatch d (s.port d.loc) val, _, rfl, fun b hb => pinLatch_bit (mask_of_pin hP hd hv hk) hb,
    (exec_gpWritePin hd hv hk ho).trans (ok_writePort rfl)⟩

/-- Settles O44: the word is that of `gpReadWord`, read bit by bit for a group and as one bit for a pin. -/
theorem gpioRead : Obligations.GpioRead := by
  unfold Obligations.GpioRead
  refine ⟨fun desc data => (decode_read_data _ _).trans (decode_encode (.gpRead desc)), fun s desc hP => ⟨fun hout => ?_,
    fun d hd => ⟨fun hv => ?_, fun hv => ⟨gpReadWord s d, exec_gpRead hd hv, fun level hlevel => ⟨?_, ?_⟩⟩⟩⟩⟩
  · have hrange : (Instr.gpRead desc).WellFormed s.params = false := by simpa [Instr.WellFormed] using hout
    exact exec_eq_raise_iff.mpr (State.errorOf_of_outOfRange hrange)
  · obtain ⟨hlt, -⟩ := List.getElem?_eq_some_iff.mp hd
    exact exec_of_unresolved (.gpRead desc) (decide_eq_true hlt) (by simp [Instr.Resolved, Params.Bound, hd, hv])
  · intro hk b hb
    rw [gpReadWord_group hk hb, hlevel, readLevel_bit]
  · intro hk
    rw [gpReadWord_pin hk (mask_of_pin hP hd hv hk), hlevel, readLevel_bit]

/-- Settles O45: the two directions are the two writes of GP.SET_PULLUP. -/
theorem gpioSetPullup : Obligations.GpioSetPullup := by
  unfold Obligations.GpioSetPullup
  refine ⟨decode_writeWG (fun _ _ => rfl) (fun _ _ _ => rfl),
    fun s desc val => ⟨exec_of_unresolved (.gpSetPullup desc val) rfl, ?_⟩⟩
  intro d hd hv
  have hcheck := gpCheck_eq_some hd hv (Kind.mem_all _) (Dir.mem_all _)
  exact ⟨fun ho => (Writes.gpSetPullupOutput desc val d hcheck (by simp [ho])).exec_eq,
    fun hi => (Writes.gpSetPullup desc val d hcheck hi).exec_eq⟩

/-- Settles O46: the two cases are those of `noChangeMask`. -/
theorem gpioChangeInt : Obligations.GpioChangeInt := by
  unfold Obligations.GpioChangeInt
  refine ⟨decode_writeWG (fun _ _ => rfl) (fun _ _ _ => rfl),
    fun s desc val => ⟨exec_of_unresolved (.gpChangeInt desc val) rfl, ?_⟩⟩
  intro d hd hv hk s1 hs1
  have hcheck := gpCheck_eq_some hd hv (ks := [.group]) (by simp [hk]) (Dir.mem_all _)
  subst hs1
  refine ⟨fun hnone => ?_, fun ⟨l, hl, hne⟩ => ?_⟩
  · exact (Writes.gpChangeIntLast desc val d hcheck (noChangeMask_iff.mpr hnone)).exec_eq
  · have hsome : noChangeMask (s.watch d (val.getLsbD 0)) = false :=
      Bool.eq_false_iff.mpr fun hall => hne (noChangeMask_iff.mp hall l hl)
    exact (Writes.gpChangeInt desc val d hcheck hsome).exec_eq

/-- Settles O47: the event is the pad write and the detection, which looks at the bits of the change mask. -/
theorem padEventDetectsChange : Obligations.PadEventDetectsChange := by
  unfold Obligations.PadEventDetectsChange
  intro s loc v es hs hl
  have hevent := padEvent_of_lt (s := s.setSchedule es) hl v
  refine ⟨_, step_pad hs, ?_⟩
  rw [hevent]
  refine ⟨by simp, by simp, fun b hb => ?_, fun l hne => by simp [hne], fun s1 hs1 => ?_⟩
  · rw [pcDetect_pad, setPad_pad_same, setSchedule_params, portBits_bit _ _ hb]
  · rw [pcDetect_pads] at hs1
    obtain rfl : s1 = (s.setSchedule es).setPad loc (portBits s.params v) := hs1
    have hzero := masked_xor_eq_zero_iff (s.pinlvl loc)
      (((s.setSchedule es).setPad loc (portBits s.params v)).pinlvl loc) (s.port loc).pcmsk
    exact ⟨fun ⟨b, hm, hne⟩ => if_pos fun h => hne (hzero.mp h b hm), fun hsame => if_neg fun h => h (hzero.mpr hsame)⟩

/-! ## What a GPIO operation leaves alone (41_gpio_engine.md R110) -/

section Mask

variable {s t u : State} {d : Descriptor} {desc : DescIdx} {i : Instr}

/-- The registers of a state differ from those of `s` under the mask of `d` at its location only, and not in the invert
mask (41_gpio_engine.md R110). -/
structure OnlyUnderMask (d : Descriptor) (s t : State) : Prop where
  dir : (t.port d.loc).dir &&& ~~~d.mask = (s.port d.loc).dir &&& ~~~d.mask
  out : (t.port d.loc).out &&& ~~~d.mask = (s.port d.loc).out &&& ~~~d.mask
  pue : (t.port d.loc).pue &&& ~~~d.mask = (s.port d.loc).pue &&& ~~~d.mask
  pcmsk : (t.port d.loc).pcmsk &&& ~~~d.mask = (s.port d.loc).pcmsk &&& ~~~d.mask
  inv : (t.port d.loc).inv = (s.port d.loc).inv
  other : ∀ l, l ≠ d.loc → t.port l = s.port l

theorem OnlyUnderMask.of_ports (h : t.ports = s.ports) : OnlyUnderMask d s t := by
  have hport (l : Loc) : t.port l = s.port l := by rw [State.port, h, State.port]
  constructor <;> simp only [hport, implies_true]

theorem OnlyUnderMask.of_setPort {r : PortRegs} (hport : ∀ l, t.port l = (s.setPort d.loc r).port l)
    (hdir : r.dir &&& ~~~d.mask = (s.port d.loc).dir &&& ~~~d.mask)
    (hout : r.out &&& ~~~d.mask = (s.port d.loc).out &&& ~~~d.mask)
    (hpue : r.pue &&& ~~~d.mask = (s.port d.loc).pue &&& ~~~d.mask)
    (hpcmsk : r.pcmsk &&& ~~~d.mask = (s.port d.loc).pcmsk &&& ~~~d.mask) (hinv : r.inv = (s.port d.loc).inv) :
    OnlyUnderMask d s t := by
  have hsame : t.port d.loc = r := (hport d.loc).trans (setPort_port_same s d.loc r)
  refine ⟨?_, ?_, ?_, ?_, ?_, fun l hl => (hport l).trans (setPort_port_ne s d.loc l r hl)⟩ <;> rwa [hsame]

/-! What each way to write a register keeps outside the mask. -/

/-- Two patterns agree outside a mask when they agree in every bit outside it. -/
theorem and_not_eq_of_bits {a b m : Port} (h : ∀ k, k < 16 → m.getLsbD k = false → a.getLsbD k = b.getLsbD k) :
    a &&& ~~~m = b &&& ~~~m := by
  apply BitVec.eq_of_getLsbD_eq
  intro k hk
  simp only [BitVec.getLsbD_and, BitVec.getLsbD_not]
  cases hm : m.getLsbD k with
  | false => rw [h k hk hm]
  | true => simp

theorem maskWrite_and_not (reg m : Port) (c : Bool) : maskWrite reg m c &&& ~~~m = reg &&& ~~~m :=
  and_not_eq_of_bits fun k _ hm => by simp [maskWrite_bit, hm]

theorem groupLatch_and_not (P : Params) (d : Descriptor) (r : PortRegs) (val : BitVec 16) :
    groupLatch P d r val &&& ~~~d.mask = r.out &&& ~~~d.mask :=
  and_not_eq_of_bits fun k hk hm => by simp [groupLatch_bit hk, hm]

theorem pinLatch_and_not (hm : d.mask = 1#16 <<< d.bitpos.toNat) (r : PortRegs) (val : BitVec 16) :
    pinLatch d r val &&& ~~~d.mask = r.out &&& ~~~d.mask :=
  and_not_eq_of_bits fun k hk hout => by
    rw [mask_bit_of_pin hm hk, decide_eq_false_iff_not] at hout
    rw [pinLatch_bit hm hk, if_neg hout]

/-- The descriptor operand of a GPIO operation (41_gpio_engine.md R102 to R107). -/
def gpioDesc : Instr → Option DescIdx
  | .gpInit desc | .gpWrite desc _ | .gpWritePin desc _ | .gpRead desc | .gpSetPullup desc _ | .gpChangeInt desc _ =>
    some desc
  | _ => none

/-- The descriptor check of an index lets its entry through and no other. -/
theorem gpCheck_entry (hd : s.params.profile.desc[desc.toNat]? = some d) {ks : List Kind} {ds : List Dir}
    {d' : Descriptor} (h : gpCheck s.params desc ks ds = some d') : d' = d := by
  obtain ⟨hget, _⟩ := gpCheck_some h
  exact Option.some.inj (hget.symm.trans hd)

/-- A write by a GPIO operation stays under the mask of its entry. -/
theorem Writes.onlyUnderMask (hw : Writes s i u) (hi : gpioDesc i = some desc) (hP : s.params.Ok)
    (hd : s.params.profile.desc[desc.toNat]? = some d) (hv : d.valid = true) : OnlyUnderMask d s u := by
  cases hw with
  | gpInit desc' d' hc =>
    cases hi
    obtain rfl := gpCheck_entry hd hc
    exact .of_setPort (fun l => writePort_port ..) (maskWrite_and_not ..) rfl rfl rfl rfl
  | gpWrite desc' val' d' hc =>
    cases hi
    obtain rfl := gpCheck_entry hd hc
    exact .of_setPort (fun l => writePort_port ..) rfl (groupLatch_and_not ..) rfl rfl rfl
  | gpWritePin desc' val' d' hc =>
    cases hi
    obtain rfl := gpCheck_entry hd hc
    obtain ⟨_, _, hk, _⟩ := gpCheck_some hc
    have hm := mask_of_pin hP hd hv (List.mem_singleton.mp hk)
    exact .of_setPort (fun l => writePort_port ..) rfl (pinLatch_and_not hm ..) rfl rfl rfl
  | gpSetPullup desc' val' d' hc =>
    cases hi
    obtain rfl := gpCheck_entry hd hc
    exact .of_setPort (fun l => rfl) rfl rfl (maskWrite_and_not ..) rfl rfl
  | gpSetPullupOutput => exact .of_ports rfl
  | gpChangeInt desc' val' d' hc =>
    cases hi
    obtain rfl := gpCheck_entry hd hc
    exact .of_setPort (fun l => rfl) rfl rfl rfl (maskWrite_and_not ..) rfl
  | gpChangeIntLast desc' val' d' hc =>
    cases hi
    obtain rfl := gpCheck_entry hd hc
    exact .of_setPort (fun l => cancel_port ..) rfl rfl rfl (maskWrite_and_not ..) rfl
  | _ => cases hi

theorem exec_onlyUnderMask (h : exec i s = .next t) (hi : gpioDesc i = some desc) (hP : s.params.Ok)
    (hd : s.params.profile.desc[desc.toNat]? = some d) (hv : d.valid = true) : OnlyUnderMask d s t := by
  have hall := exec_answers i s
  rw [h] at hall
  generalize ho : Host.Outcome.next t = o at hall
  cases hall with
  | fails c =>
    cases ho
    exact .of_ports rfl
  | reads v _ =>
    cases ho
    exact .of_ports rfl
  | writes hw =>
    cases ho
    exact { hw.onlyUnderMask hi hP hd hv with }

end Mask

/-- Settles O48: a GPIO operation fails, reads, or does a write that `Writes.onlyUnderMask` bounds. -/
theorem gpioWritesOnlyUnderMask : Obligations.GpioWritesOnlyUnderMask := by
  unfold Obligations.GpioWritesOnlyUnderMask
  intro s t desc val d i hP hd hv hi ht
  have hdesc : gpioDesc i = some desc := by
    simp only [List.mem_cons, List.not_mem_nil, or_false] at hi
    rcases hi with rfl | rfl | rfl | rfl | rfl | rfl <;> rfl
  obtain ⟨hdir, hout, hpue, hpcmsk, hinv, hother⟩ := exec_onlyUnderMask ht hdesc hP hd hv
  exact ⟨hdir, hout, hpue, hpcmsk, hinv, hother⟩

/-! ## A write read back (41_gpio_engine.md R111) -/

section WriteThenRead

variable {s t : State} {d : Descriptor} {desc : DescIdx} {val : BitVec 16} {out : Port} {P : Params} {r : PortRegs}

/-- A write of the latch leaves it, and the parameters as they are. -/
theorem ok_writePort_out (h : ok (writePort s d.loc { s.port d.loc with out := out }) = .next t) :
    t.params = s.params ∧ (t.port d.loc).out = out := by
  cases h
  simp

/-- A group reads the bits that GP.WRITE put in the latch. -/
theorem gpReadWord_of_groupLatch (hP : P.Ok) (hd : P.profile.desc[desc.toNat]? = some d) (hv : d.valid = true)
    (hk : d.kind = .group) (ho : d.dir = .output)
    (hout : (t.port d.loc).out = groupLatch P d r val) (hinv : (t.port d.loc).inv = r.inv) :
    gpReadWord t d = (val &&& d.mask).setWidth 32 := by
  apply BitVec.eq_of_getLsbD_eq
  intro b hb
  rw [gpReadWord_group hk hb, readLevel_bit, if_pos ho, hout, hinv, BitVec.getLsbD_setWidth, BitVec.getLsbD_and,
    decide_eq_true hb, Bool.true_and, Bool.and_comm]
  cases hm : d.mask.getLsbD b with
  | false => rw [Bool.and_false, Bool.and_false]
  | true =>
    have hb16 : b < 16 := BitVec.lt_of_getLsbD hm
    rw [groupLatch_bit hb16, if_pos hm, Bool.xor_assoc, Bool.xor_self, Bool.xor_false,
      decide_eq_true (lt_portW_of_mask hP hd hv hb16 hm), Bool.and_true]

/-- A pin reads the bit that GP.WRITE_PIN put in the latch. -/
theorem gpReadWord_of_pinLatch (hm : d.mask = 1#16 <<< d.bitpos.toNat) (hk : d.kind = .pin) (ho : d.dir = .output)
    (hout : (t.port d.loc).out = pinLatch d r val) (hinv : (t.port d.loc).inv = r.inv) :
    gpReadWord t d = if val.getLsbD 0 then 1 else 0 := by
  rw [gpReadWord_pin hk hm, readLevel_bit, if_pos ho, hout, hinv, pinLatch_bit hm d.bitpos.isLt, if_pos rfl,
    Bool.xor_assoc, Bool.xor_self, Bool.xor_false]

end WriteThenRead

/-- Settles O49: the write leaves `groupLatch` or `pinLatch`, and the read of it undoes the polarity. -/
theorem gpioWriteThenRead : Obligations.GpioWriteThenRead := by
  unfold Obligations.GpioWriteThenRead
  intro s t t' desc val d hP hd hv ho hexec hparams hout hinv
  cases hk : d.kind with
  | group =>
    rw [if_pos hk, exec_gpWrite hd hv hk ho] at hexec
    obtain ⟨hkeep, hlatch⟩ := ok_writePort_out hexec
    refine ⟨_, exec_gpRead (by rw [hparams, hkeep, hd]) hv, fun _ => ?_, nofun⟩
    exact gpReadWord_of_groupLatch hP hd hv hk ho (hout.trans hlatch) hinv
  | pin =>
    rw [if_neg (by rw [hk]; decide), exec_gpWritePin hd hv hk ho] at hexec
    obtain ⟨hkeep, hlatch⟩ := ok_writePort_out hexec
    refine ⟨_, exec_gpRead (by rw [hparams, hkeep, hd]) hv, nofun, fun _ => ?_⟩
    exact gpReadWord_of_pinLatch (mask_of_pin hP hd hv hk) hk ho (hout.trans hlatch) hinv

end Sys2Proof.Machine

/-! # Runs over a list of events (00_scope.md R7, 70_reset_and_hazards.md R243) -/

namespace Sys2Proof.Machine

section Runs

variable {s t u : State} {i : Instr} {e : Event}

theorem Answers.next {o : Out} (h : Answers s i o) : ∃ t, o = .next t := by
  cases h with
  | fails c => exact ⟨_, rfl⟩
  | reads v _ => exact ⟨_, rfl⟩
  | writes _ => exact ⟨_, rfl⟩

theorem exec_next (i : Instr) (s : State) : ∃ t, exec i s = .next t := (exec_answers i s).next

theorem bus_next (x : Xact) (s : State) : ∃ t, bus x s = .next t := by
  unfold bus
  split
  next i _ => exact exec_next i s
  next => exact ⟨_, rfl⟩

/-- Every step has a next state, whatever the event (70_reset_and_hazards.md R243). -/
theorem step_next (s : State) : ∃ t, step s = .next t := by
  unfold step
  split
  case h_2 x s' _ => exact bus_next x s'
  all_goals exact ⟨_, rfl⟩

theorem step_tickT {es : List Event} (h : s.schedule = .tickT :: es) : step s = .next (tickT (s.setSchedule es)) := by
  unfold step
  rw [fetch_cons s h]

/-! No event changes which events are still to come. -/

theorem Writes.schedule_eq (h : Writes s i u) : u.schedule = s.schedule := by
  cases h <;> simp

theorem tickT_schedule (s : State) : (tickT s).schedule = s.schedule := by
  obtain ⟨-, -, -, hpt⟩ := ptTick_keeps s
  obtain ⟨-, -, -, hrt⟩ := rtTick_keeps (ptTick s)
  exact hrt.trans hpt

theorem vstTick_schedule (s : State) : (vstTick s).schedule = s.schedule := by
  rcases vstTick_cases s with ⟨_, h⟩ | ⟨_, h⟩ <;> rw [h]
  exact setVst_schedule s _

theorem dtTick_schedule (s : State) : (dtTick s).schedule = s.schedule := by
  rcases dtTick_cases s with ⟨_, h⟩ | ⟨_, _, h⟩ | ⟨_, h⟩ <;> rw [h]
  · exact setDt_schedule s _
  · rw [fire_schedule, setDt_schedule]

theorem padEvent_schedule (s : State) (loc : Loc) (v : BitVec 16) : (padEvent loc v s).schedule = s.schedule := by
  rcases padEvent_cases s loc v with ⟨_, h⟩ | ⟨_, h | h⟩ <;> rw [h]
  · rw [fire_schedule, setPad_schedule]
  · exact setPad_schedule s loc _

theorem Happens.schedule_eq (he : Happens s e t) : t.schedule = s.schedule := by
  cases he with
  | fails x y c => exact fail_schedule s c y
  | reads x v => exact setAnswer_schedule s _
  | writes x _ hw => exact (setAnswer_schedule _ _).trans hw.schedule_eq
  | tickT => exact tickT_schedule s
  | tickV => exact vstTick_schedule s
  | tickD => exact dtTick_schedule s
  | pad loc v => exact padEvent_schedule s loc v
  | reset => rfl

theorem run_succ {M : Host.Core} {s t : M.State} {k : Nat} (h : M.step s = .next t) : M.run (k + 1) s = M.run k t := by
  rw [Host.Core.run, h]

/-- A run of a list of events does the first and then runs the rest. -/
theorem run_cons (s : State) (e : Event) (es : List Event) : ∃ t, Happens (s.setSchedule es) e t ∧
    core.run (e :: es).length (s.setSchedule (e :: es)) = core.run es.length (t.setSchedule es) := by
  obtain ⟨t, ht⟩ := step_next (s.setSchedule (e :: es))
  have he : Happens (s.setSchedule es) e t := step_happens (s := s.setSchedule (e :: es)) rfl ht
  have hrest : t.schedule = es := he.schedule_eq
  have hself : t.setSchedule es = t := hrest ▸ rfl
  exact ⟨t, he, hself.symm ▸ run_succ (M := core) ht⟩

/-- The induction over a list of events, packaged: an invariant with the number of events `c` so far. -/
theorem run_induct {c : Event} {Allowed : Event → Prop} {I : Nat → State → Prop}
    (hsched : ∀ k s es, I k s → I k (s.setSchedule es))
    (hev : ∀ k s e t, Allowed e → I k s → Happens s e t → I (k + if e = c then 1 else 0) t) :
    ∀ {es : List Event} {k : Nat} {s : State}, (∀ e ∈ es, Allowed e) → I k s →
      ∃ u, core.run es.length (s.setSchedule es) = .next u ∧ I (k + es.count c) u
  | [], k, s, _, h => ⟨s.setSchedule [], rfl, hsched k s [] h⟩
  | e :: es, k, s, hall, h => by
    obtain ⟨he, hes⟩ := List.forall_mem_cons.mp hall
    obtain ⟨t, hhap, hrun⟩ := run_cons s e es
    obtain ⟨u, hu, hI⟩ := run_induct hsched hev hes (hev _ _ _ _ he (hsched k s es h) hhap)
    refine ⟨u, hrun.trans hu, ?_⟩
    have hcount : (k + if e = c then 1 else 0) + es.count c = k + (e :: es).count c := by
      simp only [List.count_cons, beq_iff_eq]
      omega
    exact hcount ▸ hI

end Runs

end Sys2Proof.Machine

/-! # The Pulse Timer: its operations (42_pulse_timer.md R122 to R125) -/

namespace Sys2Proof

section Prescalers

variable {P : Params}

/-- The first prescaler does not divide (00_scope.md R4, row `PT_SHIFTS`). -/
theorem Params.Ok.ptShift_zero (hP : P.Ok) : P.ptShift 0 = 0 := by
  obtain ⟨-, hhead, -⟩ := hP.shifts
  rw [Params.ptShift, List.getD_eq_getElem?_getD, ← List.head?_eq_getElem?, hhead, Option.getD_some]

/-- Two neighbouring prescalers are at most `PT_W` bits apart (00_scope.md R4, row `PT_SHIFTS`). -/
theorem Params.Ok.ptShift_succ_le (hP : P.Ok) {j : Nat} (hj : j + 1 < P.ptShifts.length) :
    P.ptShift (j + 1) ≤ P.ptShift j + P.ptW := by
  obtain ⟨-, -, hall⟩ := hP.shifts
  have hzip : j < (P.ptShifts.zip P.ptShifts.tail).length := by
    simp only [List.length_zip, List.length_tail]
    omega
  have hpair := List.all_eq_true.mp hall _ (List.getElem_mem hzip)
  simp only [List.getElem_zip, List.getElem_tail, Bool.and_eq_true, decide_eq_true_eq] at hpair
  rw [Params.ptShift, Params.ptShift, List.getD_eq_getElem _ _ hj, List.getD_eq_getElem _ _ (Nat.lt_of_succ_lt hj)]
  exact hpair.2

/-- A prescaler below which nothing fits still sees at least one tick: the one before is at most `PT_W` bits finer. -/
theorem Params.Ok.quotient_pos (hP : P.Ok) {p1 j : Nat} (h1 : 1 ≤ p1) (hj : j < P.ptShifts.length)
    (hbelow : ∀ i, i < j → 2 ^ P.ptW < p1 / 2 ^ P.ptShift i) : 1 ≤ p1 / 2 ^ P.ptShift j := by
  cases j with
  | zero =>
    rw [hP.ptShift_zero, Nat.pow_zero, Nat.div_one]
    exact h1
  | succ j =>
    have hfiner : 2 ^ P.ptW * 2 ^ P.ptShift j ≤ p1 :=
      (Nat.le_div_iff_mul_le (Nat.two_pow_pos _)).mp (Nat.le_of_lt (hbelow j (Nat.lt_succ_self j)))
    have hle : 2 ^ P.ptShift (j + 1) ≤ p1 :=
      calc 2 ^ P.ptShift (j + 1) ≤ 2 ^ (P.ptShift j + P.ptW) := Nat.pow_le_pow_right Nat.two_pos (hP.ptShift_succ_le hj)
        _ = 2 ^ P.ptW * 2 ^ P.ptShift j := by rw [Nat.pow_add, Nat.mul_comm]
        _ ≤ p1 := hfiner
    exact Nat.div_pos hle (Nat.two_pow_pos _)

end Prescalers

end Sys2Proof

namespace Sys2Proof.Machine

section Period

/-- A period in base ticks, as a product (42_pulse_timer.md R121). -/
theorem ticksOf_eq_mul (cmp k : Nat) : ticksOf cmp k = (cmp + 1) * 2 ^ k := Nat.shiftLeft_eq _ _

/-- The two ends of the search (42_pulse_timer.md R122): the first prescaler whose quotient fits the counter, or, when
none fits, the longest period of the last one. -/
theorem ptDerive_cases (P : Params) (p : Nat) :
    ((ptDerive P p).1 < P.ptShifts.length ∧
      max p P.ptPeriodMin / 2 ^ P.ptShift (ptDerive P p).1 ≤ 2 ^ P.ptW ∧
      (ptDerive P p).2 = max p P.ptPeriodMin / 2 ^ P.ptShift (ptDerive P p).1 - 1 ∧
      ∀ i, i < (ptDerive P p).1 → 2 ^ P.ptW < max p P.ptPeriodMin / 2 ^ P.ptShift i) ∨
    (ptDerive P p = (P.ptShifts.length - 1, 2 ^ P.ptW - 1) ∧
      ∀ i, i < P.ptShifts.length → 2 ^ P.ptW < max p P.ptPeriodMin / 2 ^ P.ptShift i) := by
  unfold ptDerive
  cases hs : ptSearch P.ptW (max p P.ptPeriodMin) 0 P.ptShifts with
  | none => exact .inr ⟨rfl, fun i hi => Nat.shiftRight_eq_div_pow _ _ ▸ ptSearch_none hs i hi⟩
  | some q =>
    obtain ⟨sel, cmp⟩ := q
    obtain ⟨j, hsel, hj, hfit, hcmp, hbelow⟩ := ptSearch_some hs
    obtain rfl : sel = j := by omega
    simp only [Nat.shiftRight_eq_div_pow] at hfit hcmp hbelow
    exact .inl ⟨hj, hfit, hcmp, hbelow⟩

end Period

/-- Settles O20: the two cases of `ptDerive_cases`; the quotient of the chosen prescaler is never 0. -/
theorem pulsePeriodDerivation : Obligations.PulsePeriodDerivation := by
  unfold Obligations.PulsePeriodDerivation
  intro P p hP hp sel cmp p1 hd hp1
  subst hp1
  have h1 : 1 ≤ max p P.ptPeriodMin := le_max_of_le_left hp
  obtain ⟨hsel, hcmp⟩ := ptDerive_bounds hP p
  have hcases := ptDerive_cases P p
  rw [← hd] at hsel hcmp hcases
  dsimp only at hsel hcmp hcases
  rw [ticksOf_eq_mul]
  refine ⟨hsel, hcmp, ?_⟩
  rcases hcases with ⟨-, hfit, hq, hbelow⟩ | ⟨hlast, hnone⟩
  · have hpos := hP.quotient_pos h1 hsel hbelow
    have hcmp1 : cmp + 1 = max p P.ptPeriodMin / 2 ^ P.ptShift sel := by
      rw [hq]
      exact Nat.sub_add_cancel hpos
    rw [hcmp1, ← Nat.mod_eq_sub_div_mul]
    exact ⟨Nat.div_mul_le_self _ _, hbelow, fun _ => ⟨rfl, Nat.mod_lt _ (Nat.two_pow_pos _)⟩,
      fun hlt => absurd hfit (Nat.not_le_of_lt hlt)⟩
  · obtain ⟨rfl, rfl⟩ := Prod.mk.inj hlast
    have hlong := hnone _ hsel
    have hmax : 2 ^ P.ptW - 1 + 1 = 2 ^ P.ptW := Nat.sub_add_cancel (Nat.two_pow_pos _)
    rw [hmax]
    exact ⟨(Nat.le_div_iff_mul_le (Nat.two_pow_pos _)).mp (Nat.le_of_lt hlong),
      fun i hi => hnone i (Nat.lt_trans hi hsel), fun hfit => absurd hfit (Nat.not_le_of_lt hlong),
      fun _ => ⟨rfl, rfl⟩⟩

/-- Settles O21: the two refusals of the rule, and the write in Idle and in Running. -/
theorem pulseConfigure : Obligations.PulseConfigure := by
  unfold Obligations.PulseConfigure
  refine ⟨fun p => decode_encode (.ptConfigure p), fun s p => ⟨fun ha => ?_, fun ha hp => ?_, fun hi hp => ?_,
    fun hr hp => ?_⟩⟩
  · exact if_pos ha
  · exact (if_neg ha).trans (if_pos hp)
  · rw [(Writes.ptConfigure p (by simp [hi]) hp).exec_eq, if_pos hi]
    rfl
  · rw [(Writes.ptConfigure p (by simp [hr]) hp).exec_eq, if_neg (by simp [hr])]
    rfl

/-- Settles O22: the three cases of the rule in its order. -/
theorem pulseStart : Obligations.PulseStart := by
  unfold Obligations.PulseStart
  refine ⟨fun data => decode_write_of_build rfl data rfl, fun s => ⟨fun hr => ?_, fun hr hv => ?_, fun hr hv => ?_⟩⟩
  · exact (Writes.ptStartAgain hr).exec_eq
  · exact (if_neg hr).trans (if_pos hv)
  · rw [(Writes.ptStart hr hv).exec_eq, ← hv]
    rfl

/-- Settles O23. -/
theorem pulseStop : Obligations.PulseStop := by
  unfold Obligations.PulseStop
  exact ⟨fun data => decode_write_of_build rfl data rfl, fun s => Writes.ptStop.exec_eq⟩

end Sys2Proof.Machine

/-! # The status words (10_state.md R28 to R32) -/

namespace Sys2Proof.Machine

section StatusWords

/-! The pieces of the words: state numbers, flags and nibbles. -/

theorem PulseTimer.ie_eq_true_iff (t : PulseTimer) : t.ie = true ↔ t.state = .running := decide_eq_true_iff

theorem OneShot.bits_set_iff (k : OneShot) : k.bits.getLsbD 0 = true ↔ k = .armed := by
  cases k <;> decide

theorem SpindleTimer.pwmOut_eq_true_iff (t : SpindleTimer) : t.pwmOut = true ↔ t.en = true ∧ t.cnt < t.duty := by
  simp only [SpindleTimer.pwmOut, Bool.and_eq_true, decide_eq_true_eq]

theorem IrqBits.line_eq_true_iff (b : IrqBits) : b.line = true ↔ b.pend = true ∧ b.reg = true ∧ b.inserv = false := by
  simp only [IrqBits.line, Bool.and_eq_true, Bool.not_eq_true', and_assoc]

/-- A nibble holds the flag of each source at the number of the source. -/
theorem nibble_bit (q : Irq) (f : IrqBits → Bool) (src : Src) : (q.nibble f).getLsbD src.bits.toNat = f (q.get src) := by
  cases src <;> simp only [Irq.nibble, Irq.get, Src.bits, BitVec.getLsbD_append, BitVec.getLsbD_ofBool] <;> rfl

theorem getLsbD_append_nibble_low {w : Nat} (a : BitVec w) (b : BitVec 4) {n : Nat} (hn : n < 4) :
    (a ++ b).getLsbD n = b.getLsbD n := by
  rw [BitVec.getLsbD_append, if_pos hn]

theorem getLsbD_append_nibble_high {w : Nat} (a : BitVec w) (b : BitVec 4) {k n : Nat} (hk : 4 ≤ k) :
    (a ++ b).getLsbD (k + n) = a.getLsbD (k - 4 + n) := by
  rw [BitVec.getLsbD_append, if_neg (by omega), Nat.sub_add_comm hk]

/-! The words, field by field. -/

theorem ptStatusWord_fields (t : PulseTimer) : (ptStatusWord t).extractLsb' 0 2 = t.state.bits ∧
    (ptStatusWord t).getLsbD 2 = t.ie ∧ (ptStatusWord t).getLsbD 3 = t.valid ∧
    (ptStatusWord t).extractLsb' 4 3 = BitVec.ofNat 3 t.psel ∧ (ptStatusWord t).getLsbD 7 = false ∧
    (ptStatusWord t).extractLsb' 8 3 = BitVec.ofNat 3 t.pselB ∧ (ptStatusWord t).extractLsb' 11 5 = 0 ∧
    (ptStatusWord t).extractLsb' 16 16 = BitVec.ofNat 16 t.cmpB := by
  simp only [ptStatusWord, BitVec.extractLsb'_append_eq_of_le, BitVec.extractLsb'_append_eq_right, BitVec.getLsbD_append,
    Nat.reduceLeDiff, Nat.reduceSub, Nat.reduceLT, reduceIte, BitVec.ofNat_eq_ofNat]
  simp

/-- The words of the two one-shot timers have one layout (10_state.md R29, R31). -/
theorem oneShotWord_fields (load : Nat) (k : OneShot) {w : Word}
    (hw : w = BitVec.ofNat 16 load ++ 0#12 ++ 0#3 ++ k.bits) :
    (w.getLsbD 0 = true ↔ k = .armed) ∧ w.extractLsb' 1 15 = 0 ∧ w.extractLsb' 16 16 = BitVec.ofNat 16 load := by
  rw [← OneShot.bits_set_iff, hw]
  simp only [BitVec.extractLsb'_append_eq_of_le, BitVec.getLsbD_append, Nat.reduceLeDiff, Nat.reduceSub, Nat.reduceLT,
    reduceIte]
  refine ⟨trivial, ?_, by simp⟩
  apply BitVec.eq_of_getLsbD_eq
  intro b hb
  have hlow : b - 3 < 12 := by omega
  simp only [BitVec.getLsbD_extractLsb', BitVec.getLsbD_append, Nat.zero_add, hlow, if_true, BitVec.getLsbD_zero, ite_self,
    Bool.and_false, BitVec.ofNat_eq_ofNat]

theorem vstIsEnabledWord_fields (b : Bool) : ((BitVec.ofBool b).setWidth 32).getLsbD 0 = b ∧
    ((BitVec.ofBool b).setWidth 32).extractLsb' 1 31 = 0 := by
  cases b <;> decide

theorem vstStatusWord_fields (t : SpindleTimer) : (vstStatusWord t).extractLsb' 0 16 = BitVec.ofNat 16 t.duty ∧
    (vstStatusWord t).getLsbD 16 = t.en ∧ (vstStatusWord t).getLsbD 17 = t.pwmOut ∧
    (vstStatusWord t).extractLsb' 18 14 = 0 := by
  simp only [vstStatusWord, BitVec.extractLsb'_append_eq_of_le, BitVec.extractLsb'_append_eq_right, BitVec.getLsbD_append,
    Nat.reduceLeDiff, Nat.reduceSub, Nat.reduceLT, reduceIte]
  simp

theorem irqPendingWord_nibbles (q : Irq) {n : Nat} (hn : n < 4) :
    (irqPendingWord q).getLsbD n = (q.nibble IrqBits.pend).getLsbD n ∧ (irqPendingWord q).getLsbD (4 + n) = false ∧
    (irqPendingWord q).getLsbD (8 + n) = (q.nibble IrqBits.inserv).getLsbD n ∧
    (irqPendingWord q).getLsbD (12 + n) = false ∧
    (irqPendingWord q).getLsbD (16 + n) = (q.nibble IrqBits.reg).getLsbD n ∧
    (irqPendingWord q).getLsbD (20 + n) = false ∧
    (irqPendingWord q).getLsbD (24 + n) = (q.nibble IrqBits.line).getLsbD n ∧
    (irqPendingWord q).getLsbD (28 + n) = false := by
  simp only [irqPendingWord, getLsbD_append_nibble_high, getLsbD_append_nibble_low _ _ hn, Nat.reduceLeDiff,
    Nat.reduceSub, Nat.zero_add, BitVec.getLsbD_zero, and_self]

/-- The four flags of a source in the `IRQ.PENDING` word, and the zeros between them. -/
theorem irqPendingWord_fields (q : Irq) (src : Src) :
    (irqPendingWord q).getLsbD src.bits.toNat = (q.get src).pend ∧
    (irqPendingWord q).getLsbD (4 + src.bits.toNat) = false ∧
    (irqPendingWord q).getLsbD (8 + src.bits.toNat) = (q.get src).inserv ∧
    (irqPendingWord q).getLsbD (12 + src.bits.toNat) = false ∧
    (irqPendingWord q).getLsbD (16 + src.bits.toNat) = (q.get src).reg ∧
    (irqPendingWord q).getLsbD (20 + src.bits.toNat) = false ∧
    (irqPendingWord q).getLsbD (24 + src.bits.toNat) = (q.get src).line ∧
    (irqPendingWord q).getLsbD (28 + src.bits.toNat) = false := by
  simpa only [nibble_bit] using irqPendingWord_nibbles q src.bits.isLt

end StatusWords

/-- Settles O40: the reads answer with the six words, whose fields the lemmas above give. -/
theorem statusWordLayouts : Obligations.StatusWordLayouts := by
  unfold Obligations.StatusWordLayouts
  refine ⟨fun data => ?_, fun s => ⟨⟨_, rfl, ?_⟩, ⟨_, rfl, ?_⟩, ⟨_, rfl, ?_⟩, ⟨_, rfl, ?_⟩, ⟨_, rfl, ?_⟩,
    ⟨_, rfl, fun src => ?_⟩⟩⟩
  · simp only [decode_read_data]
    exact ⟨decode_encode .ptStatus, decode_encode .rtStatus, decode_encode .vstIsEnabled, decode_encode .vstStatus,
      decode_encode .dtStatus, decode_encode .irqPending⟩
  · rw [← s.pt.ie_eq_true_iff, Bool.coe_iff_coe]
    obtain ⟨hstate, hfields⟩ := ptStatusWord_fields s.pt
    refine ⟨hstate.trans ?_, hfields⟩
    cases s.pt.state <;> rfl
  · exact oneShotWord_fields _ _ rfl
  · exact vstIsEnabledWord_fields s.vst.en
  · rw [← s.vst.pwmOut_eq_true_iff, Bool.coe_iff_coe]
    exact vstStatusWord_fields s.vst
  · exact oneShotWord_fields _ _ rfl
  · rw [← IrqBits.line_eq_true_iff, Bool.coe_iff_coe]
    exact irqPendingWord_fields s.irq src

end Sys2Proof.Machine

/-! # The base tick (42_pulse_timer.md R127, 43_reset_timer.md R144) -/

namespace Sys2Proof.Machine

section BaseTick

variable {s t u : State} {src : Src}

/-! The Pulse Timer's part, branch by branch. -/

theorem ptTick_of_not_running (h : s.pt.state ≠ .running) : ptTick s = s := if_neg h

theorem ptTick_of_div_lt (hr : s.pt.state = .running) (hd : s.pt.div + 1 < 2 ^ s.params.ptShift s.pt.psel) :
    ptTick s = s.setPt { s.pt with div := s.pt.div + 1 } := (if_pos hr).trans (if_pos hd)

theorem ptTick_of_cnt_lt (hr : s.pt.state = .running) (hd : 2 ^ s.params.ptShift s.pt.psel ≤ s.pt.div + 1)
    (hc : s.pt.cnt < s.pt.cmp) : ptTick s = s.setPt { s.pt with div := 0, cnt := s.pt.cnt + 1 } :=
  (if_pos hr).trans ((if_neg (Nat.not_lt_of_le hd)).trans (if_pos hc))

theorem ptTick_of_fires (h : s.pulseFires) :
    ptTick s = fire .pulse (s.setPt { s.pt with div := 0, cnt := 0, psel := s.pt.pselB, cmp := s.pt.cmpB }) := by
  obtain ⟨hr, hd, hc⟩ := h
  exact (if_pos hr).trans ((if_neg (Nat.not_lt_of_le hd)).trans (if_neg (Nat.not_lt_of_le hc)))

/-! The whole base tick: each part leaves the other's timer and request. -/

theorem tickT_pt (s : State) : (tickT s).pt = (ptTick s).pt := (rtTick_keeps (ptTick s)).1

theorem tickT_irq_pulse (s : State) : (tickT s).irq.pulse = (ptTick s).irq.pulse := by
  obtain ⟨-, -, hpulse, -⟩ := rtTick_keeps (ptTick s)
  exact hpulse

/-- The tick of a match leaves the request pending (60_exceptions.md R208). -/
theorem tickT_pend_of_pulseFires (h : s.pulseFires) : (tickT s).irq.pulse.pend = true := by
  rw [tickT_irq_pulse, ptTick_of_fires h]
  rfl

/-- The sticky bits after a base tick: those the two parts set. -/
theorem tickT_sticky (s : State) {n : Nat} (hn : n < 10) :
    (tickT s).err.status.getLsbD n = true ↔ s.err.status.getLsbD n = true ∨ s.tickSets n := by
  obtain ⟨hrt, hparams, hirq, -⟩ := ptTick_keeps s
  rw [tickT, rtTick_sticky _ hn, ptTick_sticky _ hn, State.resetFires, hrt, hparams, hirq]
  tauto

/-! What the base tick leaves alone. -/

/-- The relation by the values that may change. -/
theorem State.sameButBaseTimers_iff : s.SameButBaseTimers t ↔ ∃ (pt : PulseTimer) (rt : ResetTimer) (p r : Bool)
    (status : BitVec 10), t = { s with
      pt := pt
      rt := rt
      irq := { s.irq with pulse := { s.irq.pulse with pend := p }, reset := { s.irq.reset with pend := r } }
      err := { s.err with status := status } } := by
  constructor
  · intro h
    exact ⟨_, _, _, _, _, h⟩
  · rintro ⟨pt, rt, p, r, status, rfl⟩
    rfl

theorem State.SameButBaseTimers.trans (h : s.SameButBaseTimers t) (h' : t.SameButBaseTimers u) : s.SameButBaseTimers u := by
  obtain ⟨pt, rt, p, r, status, rfl⟩ := State.sameButBaseTimers_iff.mp h
  obtain ⟨pt', rt', p', r', status', rfl⟩ := State.sameButBaseTimers_iff.mp h'
  exact State.sameButBaseTimers_iff.mpr ⟨pt', rt', p', r', status', rfl⟩

theorem State.sameButBaseTimers_setPt (s : State) (x : PulseTimer) : s.SameButBaseTimers (s.setPt x) := rfl
theorem State.sameButBaseTimers_setRt (s : State) (x : ResetTimer) : s.SameButBaseTimers (s.setRt x) := rfl

/-- Firing writes the sticky bits of the error record only (60_exceptions.md R208). -/
theorem fire_err_status (src : Src) (s : State) : (fire src s).err = { s.err with status := (fire src s).err.status } := by
  rw [fire_err, stickIf_eq (s.err.stickIf _ _), stickIf_eq s.err]

theorem State.sameButBaseTimers_fire (hsrc : src = .pulse ∨ src = .reset) (s : State) :
    s.SameButBaseTimers (fire src s) := by
  have hfire : fire src s =
      { s with irq := s.irq.setPend src true, err := { s.err with status := (fire src s).err.status } } := by
    rw [← fire_err_status]
    rfl
  rw [hfire]
  rcases hsrc with rfl | rfl <;> rfl

theorem ptTick_same (s : State) : s.SameButBaseTimers (ptTick s) := by
  rcases ptTick_cases s with ⟨_, h⟩ | ⟨_, _, h⟩ | ⟨_, _, _, h⟩ | ⟨_, h⟩
  · exact h.symm ▸ rfl
  · exact h ▸ s.sameButBaseTimers_setPt _
  · exact h ▸ s.sameButBaseTimers_setPt _
  · exact h ▸ (s.sameButBaseTimers_setPt _).trans (State.sameButBaseTimers_fire (.inl rfl) _)

theorem rtTick_same (s : State) : s.SameButBaseTimers (rtTick s) := by
  rcases rtTick_cases s with ⟨_, h⟩ | ⟨_, _, h⟩ | ⟨_, _, _, h⟩ | ⟨_, h⟩
  · exact h.symm ▸ rfl
  · exact h ▸ s.sameButBaseTimers_setRt _
  · exact h ▸ s.sameButBaseTimers_setRt _
  · exact h ▸ (s.sameButBaseTimers_setRt _).trans (State.sameButBaseTimers_fire (.inr rfl) _)

theorem tickT_same (s : State) : s.SameButBaseTimers (tickT s) := (ptTick_same s).trans (rtTick_same _)

end BaseTick

/-- Settles O24: the Reset Timer's part leaves the Pulse Timer, whose part goes branch by branch. -/
theorem pulseTick : Obligations.PulseTick := by
  unfold Obligations.PulseTick
  intro s es hs
  refine ⟨_, step_tickT hs, tickT_same _, fun n hn _ => tickT_sticky _ hn, ?_⟩
  rw [tickT_pt, tickT_irq_pulse]
  refine ⟨fun hr => ?_, fun hr => ⟨fun hd => ?_, fun hd hc => ?_, fun hd hc => ?_⟩⟩
  · rw [ptTick_of_not_running (s := s.setSchedule es) hr]
    exact ⟨rfl, rfl⟩
  · rw [ptTick_of_div_lt (s := s.setSchedule es) hr hd]
    exact ⟨rfl, rfl⟩
  · rw [ptTick_of_cnt_lt (s := s.setSchedule es) hr hd hc]
    exact ⟨rfl, rfl⟩
  · rw [ptTick_of_fires (s := s.setSchedule es) ⟨hr, hd, hc⟩]
    exact ⟨rfl, rfl⟩

end Sys2Proof.Machine

/-! # Runs of the Pulse Timer (42_pulse_timer.md R129, R130) -/

namespace Sys2Proof.Machine

section PulseRuns

variable {P : Params} {first prog k : Nat} {s t u : State} {e : Event} {es : List Event}

/-- The base ticks until the next match of a running timer, that tick included. -/
def PulseTimer.left (P : Params) (t : PulseTimer) : Nat := t.period P - t.elapsed P

/-- A running timer is short of its period. -/
theorem PulseTimer.Inv.elapsed_lt {t : PulseTimer} (h : t.Inv P) (hr : t.state = .running) : t.elapsed P < t.period P := by
  obtain ⟨-, hrun, -⟩ := h
  obtain ⟨hcnt, hdiv, -⟩ := hrun hr
  calc t.elapsed P = t.cnt * 2 ^ P.ptShift t.psel + t.div := by rw [PulseTimer.elapsed, Nat.shiftLeft_eq]
    _ < (t.cnt + 1) * 2 ^ P.ptShift t.psel := by
      rw [Nat.succ_mul]
      exact Nat.add_lt_add_left hdiv _
    _ ≤ (t.cmp + 1) * 2 ^ P.ptShift t.psel := Nat.mul_le_mul_right _ (Nat.succ_le_succ hcnt)
    _ = t.period P := (ticksOf_eq_mul _ _).symm

/-- The start of a cycle: the whole period is left. -/
theorem PulseTimer.left_of_start {t : PulseTimer} (hc : t.cnt = 0) (hd : t.div = 0) : t.left P = t.period P := by
  rw [PulseTimer.left, PulseTimer.elapsed, hc, hd, Nat.zero_shiftLeft, Nat.sub_zero]

/-- The end of a prescaled tick: a count more is a base tick more. -/
theorem PulseTimer.elapsed_count {t : PulseTimer} (hd : t.div + 1 = 2 ^ P.ptShift t.psel) :
    PulseTimer.elapsed P { t with div := 0, cnt := t.cnt + 1 } = t.elapsed P + 1 := by
  simp only [PulseTimer.elapsed, Nat.shiftLeft_eq, Nat.succ_mul]
  omega

/-- At a match one base tick is left. -/
theorem State.pulseFires.left_eq (h : s.Inv) (hf : s.pulseFires) : s.pt.left s.params = 1 := by
  obtain ⟨hr, hd, hc⟩ := hf
  obtain ⟨-, hrun, -⟩ := h.pt
  obtain ⟨hcnt, hdiv, -⟩ := hrun hr
  have hlast : s.pt.cmp = s.pt.cnt := Nat.le_antisymm hc hcnt
  simp only [PulseTimer.left, PulseTimer.period, PulseTimer.elapsed, ticksOf_eq_mul, Nat.shiftLeft_eq, hlast, Nat.succ_mul]
  omega

/-- The base tick keeps the state and the programmed period of the timer. -/
theorem ptTick_program (s : State) : (ptTick s).pt.state = s.pt.state ∧ (ptTick s).pt.program P = s.pt.program P := by
  rcases ptTick_cases s with ⟨_, h⟩ | ⟨_, _, h⟩ | ⟨_, _, _, h⟩ | ⟨_, h⟩ <;> rw [h] <;> exact ⟨rfl, rfl⟩

/-- A base tick without a match is one more elapsed in the same period. -/
theorem ptTick_elapsed (h : s.Inv) (hr : s.pt.state = .running) (hf : ¬ s.pulseFires) :
    (ptTick s).pt.elapsed s.params = s.pt.elapsed s.params + 1 ∧
      (ptTick s).pt.period s.params = s.pt.period s.params := by
  obtain ⟨-, hrun, -⟩ := h.pt
  obtain ⟨-, hdiv, -⟩ := hrun hr
  by_cases hd : s.pt.div + 1 < 2 ^ s.params.ptShift s.pt.psel
  · rw [ptTick_of_div_lt hr hd]
    exact ⟨rfl, rfl⟩
  · have hd' := Nat.le_of_not_lt hd
    have hc : s.pt.cnt < s.pt.cmp := Nat.lt_of_not_le fun hc => hf ⟨hr, hd', hc⟩
    rw [ptTick_of_cnt_lt hr hd' hc]
    exact ⟨PulseTimer.elapsed_count (Nat.le_antisymm hdiv hd'), rfl⟩

/-- What a base tick does to a running timer: the tick of the match starts a cycle of the programmed period, any other
takes one from the ticks left, which is not the last one. -/
theorem ptTick_left (h : s.Inv) (hr : s.pt.state = .running) :
    (s.pulseFires ∧ s.pt.left s.params = 1 ∧ (ptTick s).pt.left s.params = s.pt.program s.params) ∨
    (¬ s.pulseFires ∧ s.pt.left s.params ≠ 1 ∧ (ptTick s).pt.left s.params + 1 = s.pt.left s.params) := by
  by_cases hf : s.pulseFires
  · refine .inl ⟨hf, State.pulseFires.left_eq h hf, ?_⟩
    rw [ptTick_of_fires hf]
    exact PulseTimer.left_of_start rfl rfl
  · refine .inr ⟨hf, ?_⟩
    obtain ⟨helapsed, hperiod⟩ := ptTick_elapsed h hr hf
    obtain ⟨-, hparams, -⟩ := ptTick_keeps s
    have hlt : (ptTick s).pt.elapsed s.params < (ptTick s).pt.period s.params :=
      PulseTimer.Inv.elapsed_lt (hparams ▸ h.ptTick.pt) ((ptTick_program (P := s.params) s).1.trans hr)
    simp only [PulseTimer.left]
    omega

/-- After `k` base ticks the timer runs so that its fires come in the ticks `first`, `first + prog`, `first + 2 prog` and
so on: the next of them is `left` ticks away, and, but for the first, no more than a programmed period. -/
structure State.PulsesAt (P : Params) (first prog k : Nat) (s : State) : Prop where
  inv : s.Inv
  params : s.params = P
  running : s.pt.state = .running
  program : s.pt.program P = prog
  next : ∃ m, k + s.pt.left P = first + m * prog ∧ (m = 0 ∨ s.pt.left P ≤ prog)

theorem State.PulsesAt.pulseFires_iff (h : s.PulsesAt P first prog k) : s.pulseFires ↔ s.pt.left P = 1 := by
  obtain rfl := h.params
  rcases ptTick_left h.inv h.running with ⟨hf, hl, -⟩ | ⟨hf, hl, -⟩
  · exact iff_of_true hf hl
  · exact iff_of_false hf hl

/-- The timer fires in the next tick exactly when that is one of the ticks named. -/
theorem State.PulsesAt.fires_iff (h : s.PulsesAt P first prog k) :
    s.pulseFires ↔ ∃ n, k + 1 = first + n * prog := by
  obtain ⟨m, hm, hleft⟩ := h.next
  rw [h.pulseFires_iff]
  constructor
  · intro hl
    exact ⟨m, hl ▸ hm⟩
  · rintro ⟨n, hn⟩
    have hpos : 0 < s.pt.left P := by
      obtain rfl := h.params
      exact Nat.sub_pos_of_lt (h.inv.pt.elapsed_lt h.running)
    rcases Nat.lt_trichotomy n m with hlt | rfl | hgt
    · have hle : n * prog + prog ≤ m * prog := Nat.succ_mul n prog ▸ Nat.mul_le_mul_right prog hlt
      omega
    · omega
    · have hle : m * prog + prog ≤ n * prog := Nat.succ_mul m prog ▸ Nat.mul_le_mul_right prog hgt
      omega

theorem State.PulsesAt.setSchedule (h : s.PulsesAt P first prog k) (es : List Event) :
    (s.setSchedule es).PulsesAt P first prog k := { h with inv := h.inv.setSchedule es }

theorem State.PulsesAt.tickT (h : s.PulsesAt P first prog k) : (tickT s).PulsesAt P first prog (k + 1) := by
  obtain rfl := h.params
  obtain ⟨hstate, hprog⟩ := ptTick_program (P := s.params) s
  refine ⟨h.inv.ptTick.rtTick, tickT_params s, ?_, ?_, ?_⟩ <;> rw [tickT_pt]
  · exact hstate.trans h.running
  · exact hprog.trans h.program
  · obtain ⟨m, hm, hleft⟩ := h.next
    rcases ptTick_left h.inv h.running with ⟨-, hl, hl'⟩ | ⟨-, -, hl'⟩
    · refine ⟨m + 1, ?_, .inr (by rw [hl', h.program])⟩
      rw [hl', h.program, Nat.succ_mul]
      omega
    · exact ⟨m, by omega, by omega⟩

/-- The event neither stops nor reprograms a running timer: it is no reset, PT.STOP or PT.CONFIGURE. -/
abbrev Event.LeavesRunning (e : Event) : Prop :=
  e ≠ .reset ∧ e.instr? ≠ some .ptStop ∧ ∀ q, e.instr? ≠ some (.ptConfigure q)

/-- Of these events only the base tick changes a running timer: PT.START does nothing to it (42_pulse_timer.md R124). -/
theorem Happens.pt_eq_of_running (he : Happens s e t) (hr : s.pt.state = .running) (htick : e ≠ .tickT)
    (hall : e.LeavesRunning) : t.pt = s.pt := by
  obtain ⟨hreset, hstop, hconf⟩ := hall
  by_contra hc
  rcases he.write_or_tick hreset with ⟨i, u, hi, hw, rfl⟩ | hown
  · rcases hw.pt_owner hc with rfl | rfl | ⟨p, rfl⟩
    · cases hw with
      | ptStart hs _ => exact hs hr
      | ptStartAgain _ => exact hc rfl
    · exact hstop hi
    · exact hconf p hi
  · exact htick (hown.pt hc)

theorem State.PulsesAt.happens (h : s.PulsesAt P first prog k) (he : Happens s e t) (hall : e.LeavesRunning) :
    t.PulsesAt P first prog (k + if e = .tickT then 1 else 0) := by
  split
  next htick =>
    subst htick
    cases he
    exact h.tickT
  next htick =>
    have hpt := he.pt_eq_of_running h.running htick hall
    exact ⟨he.inv h.inv, he.params_eq.trans h.params, hpt ▸ h.running, hpt ▸ h.program, hpt ▸ h.next⟩

/-- The run of a timer that pulses at the ticks named, over events that neither stop nor reprogram it. -/
theorem State.PulsesAt.run (h : s.PulsesAt P first prog 0) (hes : ∀ e ∈ es, e.LeavesRunning) :
    ∃ u, core.run es.length (s.setSchedule es) = .next u ∧ u.PulsesAt P first prog (es.count .tickT) := by
  have hrun := run_induct (c := .tickT) (I := fun k s => s.PulsesAt P first prog k)
    (fun _ _ es h => h.setSchedule es) (fun _ _ _ _ hall h he => h.happens he hall) hes h
  rwa [Nat.zero_add] at hrun

/-! A stopped timer with a program (42_pulse_timer.md R130). -/

/-- The timer is stopped, with a programmed period of `prog` base ticks. -/
structure State.StoppedWith (P : Params) (prog : Nat) (s : State) : Prop where
  inv : s.Inv
  params : s.params = P
  idle : s.pt.state = .idle
  valid : s.pt.valid = true
  program : s.pt.program P = prog

/-- The event neither starts nor reprograms a stopped timer: it is no reset, PT.START or PT.CONFIGURE. -/
abbrev Event.LeavesStopped (e : Event) : Prop :=
  e ≠ .reset ∧ e.instr? ≠ some .ptStart ∧ ∀ q, e.instr? ≠ some (.ptConfigure q)

/-- Of these events only one more PT.STOP writes to a stopped timer. -/
theorem Happens.pt_of_idle (he : Happens s e t) (hidle : s.pt.state = .idle) (hall : e.LeavesStopped) :
    t.pt = s.pt ∨ t.pt = { s.pt with state := .idle, psel := 0, div := 0, cnt := 0 } := by
  obtain ⟨hreset, hstart, hconf⟩ := hall
  refine or_iff_not_imp_left.mpr fun hc => ?_
  rcases he.write_or_tick hreset with ⟨i, u, hi, hw, rfl⟩ | hown
  · rcases hw.pt_owner hc with rfl | rfl | ⟨p, rfl⟩
    · exact absurd hi hstart
    · cases hw
      rfl
    · exact absurd hi (hconf p)
  · obtain rfl := hown.pt hc
    cases he
    rw [tickT_pt, ptTick_of_not_running (by simp [hidle])] at hc
    exact absurd rfl hc

theorem State.StoppedWith.happens (h : s.StoppedWith P prog) (he : Happens s e t) (hall : e.LeavesStopped) :
    t.StoppedWith P prog := by
  have hinv := he.inv h.inv
  have hparams := he.params_eq.trans h.params
  rcases he.pt_of_idle h.idle hall with hpt | hpt
  · exact ⟨hinv, hparams, hpt ▸ h.idle, hpt ▸ h.valid, hpt ▸ h.program⟩
  · exact ⟨hinv, hparams, by rw [hpt], by rw [hpt, h.valid], hpt ▸ h.program⟩

theorem State.StoppedWith.run (h : s.StoppedWith P prog) (hes : ∀ e ∈ es, e.LeavesStopped) :
    ∃ u, core.run es.length (s.setSchedule es) = .next u ∧ u.StoppedWith P prog :=
  run_induct (c := .tickT) (k := 0) (I := fun _ s => s.StoppedWith P prog)
    (fun _ _ es h => { h with inv := h.inv.setSchedule es }) (fun _ _ _ _ hall h he => h.happens he hall) hes h

/-- PT.STOP of a programmed timer. -/
theorem State.Inv.stoppedWith (h : s.Inv) (hv : s.pt.valid = true) (ht : exec .ptStop s = .next t) :
    t.StoppedWith s.params (s.pt.program s.params) := by
  obtain rfl := Host.Outcome.next.inj (Writes.ptStop.exec_eq.symm.trans ht)
  exact ⟨(Writes.ptStop.inv h).setAnswer _, rfl, rfl, hv, rfl⟩

/-- PT.START of a stopped timer: the first fire is a whole programmed period away. -/
theorem State.StoppedWith.start (h : s.StoppedWith P prog) :
    ∃ t, exec .ptStart s = .next t ∧ t.PulsesAt P prog prog 0 := by
  have hw := Writes.ptStart (s := s) (by simp [h.idle]) h.valid
  refine ⟨_, hw.exec_eq, (hw.inv h.inv).setAnswer _, h.params, rfl, h.program, 0, ?_, .inl rfl⟩
  have hleft := PulseTimer.left_of_start (P := P)
    (t := { s.pt with psel := s.pt.pselB, cmp := s.pt.cmpB, cnt := 0, div := 0, state := .running }) rfl rfl
  rw [Nat.zero_add, Nat.zero_mul, Nat.add_zero, ← h.program]
  exact hleft

/-- PT.CONFIGURE of a running timer: the cycle in flight is untouched (42_pulse_timer.md R123). -/
theorem State.Inv.reprogram (h : s.Inv) (hr : s.pt.state = .running) {p : Word} (hp : p ≠ 0)
    (ht : exec (.ptConfigure p) s = .next t) : t.PulsesAt s.params (s.pt.left s.params)
      (ticksOf (ptDerive s.params p.toNat).2 (s.params.ptShift (ptDerive s.params p.toNat).1)) 0 := by
  have hw := Writes.ptConfigure p (s := s) (by simp [hr]) hp
  obtain rfl := Host.Outcome.next.inj (hw.exec_eq.symm.trans ht)
  refine ⟨(hw.inv h).setAnswer _, rfl, by simp [hr], rfl, 0, ?_, .inl rfl⟩
  rw [Nat.zero_add, Nat.zero_mul, Nat.add_zero]
  rfl

end PulseRuns

/-- Settles O25: the cycle in flight has `left` ticks to go, and `State.PulsesAt` says what follows it. -/
theorem pulseReprogramGlitchFree : Obligations.PulseReprogramGlitchFree := by
  unfold Obligations.PulseReprogramGlitchFree
  intro s t p h hr hp ht
  refine ⟨h.pt.elapsed_lt hr, fun es hes => ?_⟩
  obtain ⟨u, hu, hpulses⟩ := (h.reprogram hr hp ht).run hes
  exact ⟨u, hu, tickT_pend_of_pulseFires, hpulses.fires_iff⟩

/-- Settles O26: the program outlives the stop and what follows it, and the start makes it the first period and every
later one. -/
theorem pulseStopStartExactPeriod : Obligations.PulseStopStartExactPeriod := by
  unfold Obligations.PulseStopStartExactPeriod
  intro s t h hv ht ds hds
  obtain ⟨r, hr, hstopped⟩ := (h.stoppedWith hv ht).run hds
  obtain ⟨u, hu, hstarted⟩ := hstopped.start
  refine ⟨r, u, hr, hu, fun es hes => ?_⟩
  obtain ⟨v, hrun, hpulses⟩ := hstarted.run hes
  refine ⟨v, hrun, tickT_pend_of_pulseFires, ?_⟩
  simp only [Nat.succ_mul, Nat.add_comm (_ * s.pt.program s.params)]
  exact hpulses.fires_iff

end Sys2Proof.Machine

/-! # The Reset Timer: its operations and its base tick (43_reset_timer.md R141 to R147) -/

namespace Sys2Proof.Machine

section ResetTimerRules

variable {s t : State}

/-- Saturation to a range that starts at 1 (00_scope.md R9). -/
theorem clamp_one_eq {v hi : Nat} (h : 1 ≤ hi) : clamp v 1 hi = max 1 (min v hi) := by
  rcases clamp_cases v 1 hi with ⟨_, hc⟩ | ⟨_, _, hc⟩ | ⟨_, _, hc⟩ <;> rw [hc] <;> omega

/-- The effective delay of an arm (43_reset_timer.md R141); the counter has at least one bit (00_scope.md R4). -/
theorem rtDelay_eq {P : Params} (h : 1 ≤ P.rtW) (d : Word) : rtDelay P d = max 1 (min d.toNat (2 ^ P.rtW - 1)) :=
  clamp_one_eq (Nat.le_sub_one_of_lt (Nat.one_lt_two_pow (Nat.ne_of_gt h)))

/-- The condition of the width check, the width as a product (43_reset_timer.md R147). -/
theorem widthGePeriod_eq_true_iff (P : Params) (x : PulseTimer) (d1 : Nat) :
    widthGePeriod P x d1 = true ↔ x.state = .running ∧ x.period P ≤ d1 * 2 ^ P.rtShift := by
  simp only [widthGePeriod, Bool.and_eq_true, decide_eq_true_eq, Nat.shiftLeft_eq]

/-- The width check writes its sticky bit and nothing else (43_reset_timer.md R147). -/
theorem widthCheck_eq (d1 : Nat) (s : State) : widthCheck d1 s = s.setErr { s.err with status := s.err.status |||
    (if s.pt.state = .running ∧ s.pt.period s.params ≤ d1 * 2 ^ s.params.rtShift then 0x100 else 0) } := by
  simp only [← widthGePeriod_eq_true_iff, widthCheck, ErrRecord.stickIf]
  split
  next => rfl
  next => exact congrArg (fun v => s.setErr { s.err with status := v }) BitVec.or_zero.symm

/-! The Reset Timer's part of the base tick, branch by branch (43_reset_timer.md R144). -/

theorem rtTick_of_not_armed (h : s.rt.state ≠ .armed) : rtTick s = s := if_neg h

theorem rtTick_of_div_lt (ha : s.rt.state = .armed) (hd : s.rt.div + 1 < 2 ^ s.params.rtShift) :
    rtTick s = s.setRt { s.rt with div := s.rt.div + 1 } := (if_pos ha).trans (if_pos hd)

theorem rtTick_of_one_lt (ha : s.rt.state = .armed) (hd : 2 ^ s.params.rtShift ≤ s.rt.div + 1) (hc : 1 < s.rt.cnt) :
    rtTick s = s.setRt { s.rt with div := 0, cnt := s.rt.cnt - 1 } :=
  (if_pos ha).trans ((if_neg (Nat.not_lt_of_le hd)).trans (if_neg (Nat.sub_ne_zero_of_lt hc)))

theorem rtTick_of_fires (h : s.resetFires) :
    rtTick s = fire .reset (s.setRt { s.rt with div := 0, cnt := 0, state := .idle }) := by
  obtain ⟨ha, hd, hc⟩ := h
  exact (if_pos ha).trans ((if_neg (Nat.not_lt_of_le hd)).trans (if_pos (Nat.sub_eq_zero_of_le hc)))

/-- What the Reset Timer's part does to its timer and its request depends on nothing else but the parameters. -/
theorem rtTick_congr (hrt : t.rt = s.rt) (hparams : t.params = s.params) (hirq : t.irq.reset = s.irq.reset) :
    (rtTick t).rt = (rtTick s).rt ∧ (rtTick t).irq.reset = (rtTick s).irq.reset := by
  rcases rtTick_cases s with ⟨ha, h⟩ | ⟨ha, hd, h⟩ | ⟨ha, hd, hc, h⟩ | ⟨hf, h⟩ <;> rw [h]
  · rw [rtTick_of_not_armed (hrt ▸ ha)]
    exact ⟨hrt, hirq⟩
  · rw [rtTick_of_div_lt (hrt ▸ ha) (hrt ▸ hparams ▸ hd), hrt]
    exact ⟨rfl, hirq⟩
  · rw [rtTick_of_one_lt (hrt ▸ ha) (hrt ▸ hparams ▸ hd) (hrt ▸ hc), hrt]
    exact ⟨rfl, hirq⟩
  · rw [rtTick_of_fires (by rwa [State.resetFires, hrt, hparams]), hrt]
    exact ⟨rfl, congrArg (fun b => { b with pend := true }) hirq⟩

/-- The whole base tick: the Pulse Timer's part, which goes first, leaves the Reset Timer and its request. -/
theorem tickT_reset (s : State) : (tickT s).rt = (rtTick s).rt ∧ (tickT s).irq.reset = (rtTick s).irq.reset := by
  obtain ⟨hrt, hparams, hirq, -⟩ := ptTick_keeps s
  exact rtTick_congr hrt hparams hirq

/-- The tick of the match leaves the request pending (60_exceptions.md R208). -/
theorem tickT_pend_of_resetFires (h : s.resetFires) : (tickT s).irq.reset.pend = true := by
  obtain ⟨-, hirq⟩ := tickT_reset s
  rw [hirq, rtTick_of_fires h]
  rfl

end ResetTimerRules

/-- Settles O27: the delay is `rtDelay`, the width check is `widthCheck_eq`, and both delays saturate to 1. -/
theorem resetArm : Obligations.ResetArm := by
  unfold Obligations.ResetArm
  refine ⟨fun d => decode_encode (.rtArm d), fun s d hw => ⟨fun d1 hd1 => ?_, ?_⟩⟩
  · rw [(Writes.rtArm d).exec_eq, rtDelay_eq hw, ← hd1, widthCheck_eq]
    rfl
  · have hdelay : rtDelay s.params 0 = rtDelay s.params 1 := by
      rw [rtDelay_eq hw, rtDelay_eq hw]
      exact (max_eq_left (Nat.le_trans (Nat.min_le_left _ _) (Nat.zero_le 1))).trans
        (max_eq_left (Nat.min_le_left _ _)).symm
    rw [(Writes.rtArm 0).exec_eq, (Writes.rtArm 1).exec_eq, hdelay]

/-- Settles O37: each is one write of `Writes`, the timer made idle and its request withdrawn. -/
theorem oneShotDisarm : Obligations.OneShotDisarm := by
  unfold Obligations.OneShotDisarm
  exact ⟨fun data => ⟨decode_write_of_build rfl data rfl, decode_write_of_build rfl data rfl⟩,
    fun s => ⟨Writes.rtDisarm.exec_eq, Writes.dtDisarm.exec_eq⟩⟩

/-- Settles O28: the Pulse Timer's part leaves the Reset Timer, whose part goes branch by branch. -/
theorem resetTick : Obligations.ResetTick := by
  unfold Obligations.ResetTick
  intro s es hs h1
  refine ⟨_, step_tickT hs, tickT_same _, fun n hn => tickT_sticky _ hn, ?_⟩
  obtain ⟨hrt, hirq⟩ := tickT_reset (s.setSchedule es)
  rw [hrt, hirq]
  refine ⟨fun hi => ?_, fun ha => ⟨fun hd => ?_, fun hd hc => ?_, fun hd hc => ?_⟩⟩
  · rw [rtTick_of_not_armed (s := s.setSchedule es) (by simp [hi])]
    exact ⟨rfl, rfl⟩
  · rw [rtTick_of_div_lt (s := s.setSchedule es) ha hd]
    exact ⟨rfl, rfl⟩
  · rw [rtTick_of_one_lt (s := s.setSchedule es) ha hd (Nat.lt_of_le_of_ne (h1 ha) (Ne.symm hc))]
    exact ⟨rfl, rfl⟩
  · rw [rtTick_of_fires (s := s.setSchedule es) ⟨ha, hd, Nat.le_of_eq hc⟩]
    exact ⟨rfl, rfl⟩

end Sys2Proof.Machine

/-! # Runs of the Reset Timer (43_reset_timer.md R148) -/

namespace Sys2Proof.Machine

section ResetRuns

variable {P : Params} {D k : Nat} {s t : State} {e : Event} {es : List Event}

/-- The base ticks until the match of an armed timer, that tick included; none for an idle timer. -/
def ResetTimer.left (P : Params) (t : ResetTimer) : Nat := t.cnt * 2 ^ P.rtShift - t.div

theorem OneShot.ne_armed_iff {x : OneShot} : x ≠ .armed ↔ x = .idle := by
  cases x <;> decide

/-- Nothing is left exactly of an idle timer. -/
theorem ResetTimer.Inv.idle_iff {t : ResetTimer} (h : t.Inv P) : t.state = .idle ↔ t.left P = 0 := by
  obtain ⟨hidle, harm, hdiv, -⟩ := h
  constructor
  · intro hi
    obtain ⟨hc, -⟩ := hidle hi
    rw [ResetTimer.left, hc, Nat.zero_mul, Nat.zero_sub]
  · intro hl
    rw [← OneShot.ne_armed_iff]
    intro ha
    have hle : 1 * 2 ^ P.rtShift ≤ t.cnt * 2 ^ P.rtShift := Nat.mul_le_mul_right _ (harm ha)
    rw [ResetTimer.left] at hl
    omega

/-- The next tick is the match exactly when it is the last one left. -/
theorem State.resetFires_iff (h : s.rt.Inv s.params) : s.resetFires ↔ s.rt.left s.params = 1 := by
  have ⟨_, harm, hdiv, _⟩ := h
  constructor
  · rintro ⟨ha, hd, hc⟩
    have hlast : s.rt.cnt = 1 := Nat.le_antisymm hc (harm ha)
    rw [ResetTimer.left, hlast, Nat.one_mul]
    omega
  · intro hl
    have ha : s.rt.state = .armed := by
      by_contra hna
      rw [h.idle_iff.mp (OneShot.ne_armed_iff.mp hna)] at hl
      cases hl
    have hlow : 1 * 2 ^ s.params.rtShift ≤ s.rt.cnt * 2 ^ s.params.rtShift := Nat.mul_le_mul_right _ (harm ha)
    rw [ResetTimer.left] at hl
    refine ⟨ha, by omega, ?_⟩
    by_contra hlt
    have hhigh : 2 * 2 ^ s.params.rtShift ≤ s.rt.cnt * 2 ^ s.params.rtShift :=
      Nat.mul_le_mul_right _ (Nat.lt_of_not_le hlt)
    omega

/-- The base tick keeps the invariant of the timer, whatever the rest of the state. -/
theorem rtTick_inv (h : s.rt.Inv s.params) : (rtTick s).rt.Inv s.params := by
  have ⟨_, harm, _⟩ := h
  rcases rtTick_cases s with ⟨_, ht⟩ | ⟨ha, hd, ht⟩ | ⟨ha, _, hc, ht⟩ | ⟨_, ht⟩ <;> rw [ht]
  · exact h
  · exact h.count ha hd (harm ha) (Nat.le_refl _)
  · exact h.count ha (Nat.two_pow_pos _) (Nat.le_sub_one_of_lt hc) (Nat.sub_le _ _)
  · exact h.idle

/-- The base tick takes one from the ticks left, and leaves an idle timer with none. -/
theorem rtTick_left (h : s.rt.Inv s.params) : (rtTick s).rt.left s.params = s.rt.left s.params - 1 := by
  have ⟨_, _, hdiv, _⟩ := h
  rcases rtTick_cases s with ⟨ha, ht⟩ | ⟨_, _, ht⟩ | ⟨_, hd, hc, ht⟩ | ⟨hf, ht⟩ <;> rw [ht]
  · rw [h.idle_iff.mp (OneShot.ne_armed_iff.mp ha)]
  · exact Nat.sub_add_eq _ _ _
  · obtain ⟨c, hcnt⟩ : ∃ c, s.rt.cnt = c + 1 := Nat.exists_eq_succ_of_ne_zero (Nat.ne_of_gt (Nat.zero_lt_of_lt hc))
    simp only [ResetTimer.left, setRt_rt, hcnt, Nat.succ_mul, Nat.add_sub_cancel]
    omega
  · rw [(State.resetFires_iff h).mp hf]
    exact h.idle.idle_iff.mp rfl

/-- After `k` base ticks the match of an arm `D` ticks long is `D - k` ticks away, and none is to come once they are
over: `D - k` is then 0. -/
structure State.ResetAt (P : Params) (D k : Nat) (s : State) : Prop where
  params : s.params = P
  inv : s.rt.Inv P
  left : s.rt.left P = D - k

/-- The timer fires in the `D`-th tick and in no other. -/
theorem State.ResetAt.fires_iff (h : s.ResetAt P D k) : s.resetFires ↔ k + 1 = D := by
  obtain ⟨rfl, hinv, hleft⟩ := h
  rw [State.resetFires_iff hinv, hleft]
  omega

theorem State.ResetAt.idle_iff (h : s.ResetAt P D k) : s.rt.state = .idle ↔ D ≤ k := by
  rw [h.inv.idle_iff, h.left, Nat.sub_eq_zero_iff_le]

theorem State.ResetAt.tickT (h : s.ResetAt P D k) : (tickT s).ResetAt P D (k + 1) := by
  obtain ⟨rfl, hinv, hleft⟩ := h
  obtain ⟨hrt, -⟩ := tickT_reset s
  refine ⟨tickT_params s, hrt ▸ rtTick_inv hinv, ?_⟩
  rw [hrt, rtTick_left hinv, hleft, Nat.sub_add_eq]

/-- The event neither arms nor disarms the timer: it is no reset, RT.DISARM or RT.ARM. -/
abbrev Event.LeavesResetTimer (e : Event) : Prop :=
  e ≠ .reset ∧ e.instr? ≠ some .rtDisarm ∧ ∀ c, e.instr? ≠ some (.rtArm c)

/-- Of these events only the base tick changes the timer (10_state.md R27). -/
theorem Happens.rt_eq (he : Happens s e t) (htick : e ≠ .tickT) (hall : e.LeavesResetTimer) : t.rt = s.rt := by
  obtain ⟨hreset, hdisarm, harm⟩ := hall
  by_contra hc
  rcases he.write_or_tick hreset with ⟨i, u, hi, hw, rfl⟩ | hown
  · rcases hw.rt_owner hc with rfl | ⟨d, rfl⟩
    · exact hdisarm hi
    · exact harm d hi
  · exact htick (hown.rt hc)

theorem State.ResetAt.happens (h : s.ResetAt P D k) (he : Happens s e t) (hall : e.LeavesResetTimer) :
    t.ResetAt P D (k + if e = .tickT then 1 else 0) := by
  split
  next htick =>
    subst htick
    cases he
    exact h.tickT
  next htick =>
    have hrt := he.rt_eq htick hall
    exact ⟨he.params_eq.trans h.params, hrt ▸ h.inv, hrt ▸ h.left⟩

/-- The run of an armed timer over events that neither arm it again nor disarm it. -/
theorem State.ResetAt.run (h : s.ResetAt P D 0) (hes : ∀ e ∈ es, e.LeavesResetTimer) :
    ∃ u, core.run es.length (s.setSchedule es) = .next u ∧ u.ResetAt P D (es.count .tickT) := by
  have hrun := run_induct (c := .tickT) (I := fun k s => s.ResetAt P D k)
    (fun _ _ _ h => ⟨h.params, h.inv, h.left⟩) (fun _ _ _ _ hall h he => h.happens he hall) hes h
  rwa [Nat.zero_add] at hrun

/-- RT.ARM: the match is the whole effective delay away (43_reset_timer.md R141). -/
theorem State.resetAt_of_rtArm {d : Word} (hw : 1 ≤ s.params.rtW) (ht : exec (.rtArm d) s = .next t) :
    t.ResetAt s.params (max 1 (min d.toNat (2 ^ s.params.rtW - 1)) * 2 ^ s.params.rtShift) 0 := by
  obtain rfl := Host.Outcome.next.inj ((Writes.rtArm d).exec_eq.symm.trans ht)
  obtain ⟨h1, hlt⟩ := rtDelay_bounds hw d
  exact ⟨rfl, ResetTimer.inv_armed h1 hlt, rtDelay_eq hw d ▸ rfl⟩

end ResetRuns

/-- Settles O29: the arm starts the count of `State.ResetAt`, which says when the timer fires and when it is idle. -/
theorem resetFiresExactlyOnce : Obligations.ResetFiresExactlyOnce := by
  unfold Obligations.ResetFiresExactlyOnce
  intro s t d hP ht D hD es hes
  obtain ⟨-, -, ⟨hw, -⟩, -⟩ := hP.widths
  obtain ⟨u, hu, hreset⟩ := (State.resetAt_of_rtArm hw ht).run hes
  rw [← hD] at hreset
  exact ⟨u, hu, tickT_pend_of_resetFires, hreset.fires_iff, hreset.idle_iff⟩

end Sys2Proof.Machine

/-! # The Spindle PWM Timer: its operations and its tick (44_spindle_pwm.md R155 to R160) -/

namespace Sys2Proof.Machine

section Spindle

variable {P : Params} {k : Nat} {s t : State} {e : Event} {es : List Event}

/-- Saturation (00_scope.md R9) for each place of the value; the lower bound goes first, whatever the order of the
bounds. -/
theorem clamp_values (v lo hi : Nat) : (v < lo → clamp v lo hi = lo) ∧ (lo ≤ v → hi < v → clamp v lo hi = hi) ∧
    (lo ≤ v → v ≤ hi → clamp v lo hi = v) := by
  rcases clamp_cases v lo hi with ⟨hlt, hc⟩ | ⟨hle, hgt, hc⟩ | ⟨hle, hle', hc⟩ <;> rw [hc] <;> omega

theorem vstTick_of_enabled (h : s.vst.en = true) :
    vstTick s = s.setVst { s.vst with cnt := (s.vst.cnt + 1) % 2 ^ s.params.vstW } := if_pos h

theorem vstTick_of_disabled (h : s.vst.en = false) : vstTick s = s := if_neg (Bool.eq_false_iff.mp h)

theorem step_tickV (h : s.schedule = .tickV :: es) : step s = .next (vstTick (s.setSchedule es)) := by
  unfold step
  rw [fetch_cons s h]
  rfl

/-- The event neither resets nor disables the spindle. -/
abbrev Event.LeavesSpindleOn (e : Event) : Prop := e ≠ .reset ∧ e.instr? ≠ some (.vstEnable false)

/-- Of these events only the spindle tick moves the counter of an enabled spindle; a further enable and a new duty leave
it where it is (44_spindle_pwm.md R156, R157). -/
theorem Happens.vst_count (he : Happens s e t) (hen : s.vst.en = true) (htick : e ≠ .tickV) (hall : e.LeavesSpindleOn) :
    t.vst.en = true ∧ t.vst.cnt = s.vst.cnt := by
  obtain ⟨hreset, hdisable⟩ := hall
  by_cases hsame : t.vst = s.vst
  · rw [hsame]
    exact ⟨hen, rfl⟩
  rcases he.write_or_tick hreset with ⟨i, u, hi, hw, rfl⟩ | hown
  · rcases hw.vst_owner hsame with ⟨b, rfl⟩ | ⟨v, rfl⟩
    · cases hw with
      | vstEnable => exact ⟨rfl, rfl⟩
      | vstDisable => exact absurd hi hdisable
    · cases hw
      exact ⟨hen, rfl⟩
  · exact absurd (hown.vst hsame) htick

/-- The spindle is enabled and its counter, which wraps around, has counted `k` spindle ticks. -/
structure State.SpindleAt (P : Params) (k : Nat) (s : State) : Prop where
  params : s.params = P
  enabled : s.vst.en = true
  count : s.vst.cnt = k % 2 ^ P.vstW

/-- Within each period the output is high for as many ticks as the duty says. -/
theorem State.SpindleAt.pwmOut_iff (h : s.SpindleAt P k) : s.vst.pwmOut = true ↔ k % 2 ^ P.vstW < s.vst.duty := by
  rw [SpindleTimer.pwmOut_eq_true_iff, h.count]
  exact and_iff_right h.enabled

theorem State.SpindleAt.tickV (h : s.SpindleAt P k) : (tickV s).SpindleAt P (k + 1) := by
  obtain ⟨rfl, hen, hcount⟩ := h
  rw [Machine.tickV, vstTick_of_enabled hen]
  refine ⟨rfl, hen, ?_⟩
  rw [setVst_vst, hcount, Nat.mod_add_mod]

theorem State.SpindleAt.happens (h : s.SpindleAt P k) (he : Happens s e t) (hall : e.LeavesSpindleOn) :
    t.SpindleAt P (k + if e = .tickV then 1 else 0) := by
  split
  next htick =>
    subst htick
    cases he
    exact h.tickV
  next htick =>
    obtain ⟨hen, hcount⟩ := he.vst_count h.enabled htick hall
    exact ⟨he.params_eq.trans h.params, hen, hcount.trans h.count⟩

/-- The run of an enabled spindle over events that do not disable it. -/
theorem State.SpindleAt.run (h : s.SpindleAt P 0) (hes : ∀ e ∈ es, e.LeavesSpindleOn) :
    ∃ u, core.run es.length (s.setSchedule es) = .next u ∧ u.SpindleAt P (es.count .tickV) := by
  have hrun := run_induct (c := .tickV) (I := fun k s => s.SpindleAt P k)
    (fun _ _ _ h => ⟨h.params, h.enabled, h.count⟩) (fun _ _ _ _ hall h he => h.happens he hall) hes h
  rwa [Nat.zero_add] at hrun

/-- VST.ENABLE 1 of a disabled spindle, whose counter is held at 0: a fresh period (44_spindle_pwm.md R156). -/
theorem State.Inv.spindleAt_of_enable (h : s.Inv) (hoff : s.vst.en = false) (ht : exec (.vstEnable true) s = .next t) :
    t.SpindleAt s.params 0 := by
  obtain rfl := Host.Outcome.next.inj (Writes.vstEnable.exec_eq.symm.trans ht)
  obtain ⟨hheld, -⟩ := h.vst
  exact ⟨rfl, rfl, (hheld hoff).trans (Nat.zero_mod _).symm⟩

end Spindle

/-- Settles O33: the enable starts the count of `State.SpindleAt`, which the run carries through every event. -/
theorem pwmWaveform : Obligations.PwmWaveform := by
  unfold Obligations.PwmWaveform
  intro s t h hoff ht es hes
  obtain ⟨u, hu, hspindle⟩ := (h.spindleAt_of_enable hoff ht).run hes
  exact ⟨u, hu, hspindle.enabled, hspindle.count, hspindle.pwmOut_iff⟩

/-- Settles O31: each is one write of `Writes`, the duty saturated as `clamp_values` says. -/
theorem spindleOperations : Obligations.SpindleOperations := by
  unfold Obligations.SpindleOperations
  refine ⟨fun data => ⟨?_, decode_encode (.vstSetDuty data)⟩,
    fun s v => ⟨Writes.vstEnable.exec_eq, Writes.vstDisable.exec_eq, _, (Writes.vstSetDuty v).exec_eq, clamp_values _ _ _⟩⟩
  refine decode_write_of_build (i := .vstEnable (data.getLsbD 0)) rfl data (congrArg Instr.vstEnable ?_)
  rw [fieldB_eq, data_pack]

/-- Settles O32: the tick of the state without the event, enabled and disabled. -/
theorem spindleTick : Obligations.SpindleTick := by
  unfold Obligations.SpindleTick
  intro s es hs
  rw [step_tickV hs]
  exact ⟨fun hen => congrArg _ (vstTick_of_enabled (s := s.setSchedule es) hen),
    fun hoff => congrArg _ (vstTick_of_disabled (s := s.setSchedule es) hoff)⟩

end Sys2Proof.Machine

/-! # The spindle and the other timers (44_spindle_pwm.md R162)

Neither side reads nor writes the other's timer when replacing that timer before an operation or a tick is replacing
it after. -/

namespace Sys2Proof.Machine

section Independence

variable {s t : State} {i : Instr} {f : State → State} {o o' : Out} {v : SpindleTimer}
  {a : PulseTimer} {b : ResetTimer} {c : DebounceTimer}

/-- Both outcomes go on, the second in the state that `f` makes of the first one's. -/
def Follows (f : State → State) (o o' : Out) : Prop := ∃ t, o = .next t ∧ o' = .next (f t)

theorem Follows.next : Follows f (.next t) (.next (f t)) := ⟨t, rfl, rfl⟩

/-- A branch that both take alike. -/
theorem Follows.ite {p : Prop} [Decidable p] {q q' : Out} (h : Follows f o o') (h' : Follows f q q') :
    Follows f (if p then o else q) (if p then o' else q') := by
  split
  · exact h
  · exact h'

theorem Follows.eq_next (h : Follows f o o') (ho : o = .next t) : o' = .next (f t) := by
  obtain ⟨t', ht', hf⟩ := h
  obtain rfl := Host.Outcome.next.inj (ht'.symm.trans ho)
  exact hf

/-- An outcome that follows itself is in a state that `f` does not change. -/
theorem Follows.fixed (h : Follows f o o) (ho : o = .next t) : t = f t :=
  Host.Outcome.next.inj (ho.symm.trans (h.eq_next ho))

/-- The three timers that are not the spindle, replaced. -/
def State.setOtherTimers (a : PulseTimer) (b : ResetTimer) (c : DebounceTimer) (s : State) : State :=
  ((s.setPt a).setRt b).setDt c

/-- An operation of the spindle (44_spindle_pwm.md R156 to R159). -/
abbrev SpindleOp (i : Instr) : Prop :=
  (∃ e, i = .vstEnable e) ∨ (∃ v, i = .vstSetDuty v) ∨ i = .vstIsEnabled ∨ i = .vstStatus

/-- An operation of the Pulse, Reset or Debounce Timer. -/
abbrev OtherTimerOp (i : Instr) : Prop :=
  (∃ p, i = .ptConfigure p) ∨ (∃ d, i = .rtArm d) ∨
    i ∈ [.ptStart, .ptStop, .ptStatus, .rtDisarm, .rtStatus, .dtArm, .dtDisarm, .dtStatus]

/-! The spindle's side. -/

theorem exec_setOtherTimers (hi : SpindleOp i) (s : State) :
    Follows (State.setOtherTimers a b c) (exec i s) (exec i (s.setOtherTimers a b c)) := by
  rcases hi with ⟨e, rfl⟩ | ⟨v, rfl⟩ | rfl | rfl
  · cases e <;> exact .next
  · exact .next
  · exact .next
  · exact .next

theorem exec_keeps_otherTimers (hi : SpindleOp i) (ht : exec i s = .next t) : t.pt = s.pt ∧ t.rt = s.rt ∧ t.dt = s.dt := by
  have hfixed : t = t.setOtherTimers s.pt s.rt s.dt := (exec_setOtherTimers hi s).fixed ht
  exact ⟨(congrArg State.pt hfixed).trans rfl, (congrArg State.rt hfixed).trans rfl, (congrArg State.dt hfixed).trans rfl⟩

theorem tickV_setOtherTimers (s : State) : tickV (s.setOtherTimers a b c) = (tickV s).setOtherTimers a b c := by
  rcases vstTick_cases s with ⟨hen, h⟩ | ⟨hoff, h⟩ <;> rw [tickV, tickV, h]
  · exact vstTick_of_enabled hen
  · exact vstTick_of_disabled hoff

/-! The other timers' side. -/

theorem exec_setVst (hi : OtherTimerOp i) (s : State) : Follows (·.setVst v) (exec i s) (exec i (s.setVst v)) := by
  cases i with
  | ptConfigure p => exact .ite .next (.ite .next .next)
  | ptStart => exact .ite .next (.ite .next .next)
  | dtArm => exact .ite .next .next
  | ptStop => exact .next
  | ptStatus => exact .next
  | rtArm d => exact .next
  | rtDisarm => exact .next
  | rtStatus => exact .next
  | dtDisarm => exact .next
  | dtStatus => exact .next
  | _ => simp [OtherTimerOp] at hi

theorem exec_keeps_vst (hi : OtherTimerOp i) (ht : exec i s = .next t) : t.vst = s.vst := by
  have hfixed : t = t.setVst s.vst := (exec_setVst hi s).fixed ht
  exact (congrArg State.vst hfixed).trans (setVst_vst t s.vst)

theorem ptTick_setVst (s : State) : ptTick (s.setVst v) = (ptTick s).setVst v := by
  rcases ptTick_cases s with ⟨hr, h⟩ | ⟨hr, hd, h⟩ | ⟨hr, hd, hc, h⟩ | ⟨hf, h⟩ <;> rw [h]
  · exact ptTick_of_not_running hr
  · exact ptTick_of_div_lt hr hd
  · exact ptTick_of_cnt_lt hr hd hc
  · exact ptTick_of_fires hf

theorem rtTick_setVst (s : State) : rtTick (s.setVst v) = (rtTick s).setVst v := by
  rcases rtTick_cases s with ⟨ha, h⟩ | ⟨ha, hd, h⟩ | ⟨ha, hd, hc, h⟩ | ⟨hf, h⟩ <;> rw [h]
  · exact rtTick_of_not_armed ha
  · exact rtTick_of_div_lt ha hd
  · exact rtTick_of_one_lt ha hd hc
  · exact rtTick_of_fires hf

theorem tickT_setVst (s : State) : tickT (s.setVst v) = (tickT s).setVst v := by
  rw [tickT, ptTick_setVst, rtTick_setVst, tickT]

/-! The debounce tick, branch by branch (45_debounce_timer.md R174). -/

theorem dtTick_of_not_armed (h : s.dt.state ≠ .armed) : dtTick s = s := if_neg h

theorem dtTick_of_one_lt (ha : s.dt.state = .armed) (hc : 1 < s.dt.cnt) :
    dtTick s = s.setDt { s.dt with cnt := s.dt.cnt - 1 } := (if_pos ha).trans (if_neg (Nat.sub_ne_zero_of_lt hc))

theorem dtTick_of_fires (h : s.debounceFires) :
    dtTick s = fire .debounce (s.setDt { s.dt with cnt := 0, state := .idle }) := by
  obtain ⟨ha, hc⟩ := h
  exact (if_pos ha).trans (if_pos (Nat.sub_eq_zero_of_le hc))

theorem tickD_setVst (s : State) : tickD (s.setVst v) = (tickD s).setVst v := by
  rcases dtTick_cases s with ⟨ha, h⟩ | ⟨ha, hc, h⟩ | ⟨hf, h⟩ <;> rw [tickD, tickD, h]
  · exact dtTick_of_not_armed ha
  · exact dtTick_of_one_lt ha hc
  · exact dtTick_of_fires hf

end Independence

/-- Settles O35: on each side replacing the other's timers commutes with the operations and the ticks, and leaves
nothing to replace where they were not changed before. -/
theorem spindleIndependent : Obligations.SpindleIndependent := by
  unfold Obligations.SpindleIndependent
  constructor
  · intro s a b c i hi
    obtain ⟨t, ht⟩ := exec_next i s
    obtain ⟨hpt, hrt, hdt⟩ := exec_keeps_otherTimers hi ht
    obtain ⟨hpt', hrt', hdt', -⟩ := tickV_frame s
    exact ⟨⟨t, ht, hpt, hrt, hdt, (exec_setOtherTimers hi s).eq_next ht⟩,
      tickV_setOtherTimers (a := a) (b := b) (c := c) s, hpt', hrt', hdt'⟩
  · intro s v i hi
    obtain ⟨t, ht⟩ := exec_next i s
    obtain ⟨hvstT, -⟩ := tickT_frame s
    obtain ⟨-, -, hvstD, -⟩ := tickD_frame s
    exact ⟨⟨t, ht, exec_keeps_vst hi ht, (exec_setVst hi s).eq_next ht⟩, tickT_setVst s, hvstT, tickD_setVst s, hvstD⟩

end Sys2Proof.Machine

/-! # The Debounce Timer: its operations, its tick and its runs (45_debounce_timer.md R171 to R175) -/

namespace Sys2Proof.Machine

section Debounce

variable {d1 k : Nat} {s t : State} {e : Event} {es : List Event}

/-- The effective delay of an arm (45_debounce_timer.md R171); the counter has at least one bit (00_scope.md R4). -/
theorem dtDelay_eq (h : 1 ≤ s.params.dtW) : dtDelay s = max 1 (min s.cfg.debounce (2 ^ s.params.dtW - 1)) :=
  clamp_one_eq (Nat.le_sub_one_of_lt (Nat.one_lt_two_pow (Nat.ne_of_gt h)))

/-- DT.ARM of an idle timer opens a window of the effective delay. -/
theorem exec_dtArm_of_idle (hw : 1 ≤ s.params.dtW) (hi : s.dt.state = .idle)
    (hd1 : d1 = max 1 (min s.cfg.debounce (2 ^ s.params.dtW - 1))) :
    exec .dtArm s = ok (s.setDt { state := .armed, cnt := d1, load := d1 }) := by
  rw [(Writes.dtArm (by simp [hi])).exec_eq, dtDelay_eq hw, ← hd1]

theorem step_tickD (h : s.schedule = .tickD :: es) : step s = .next (dtTick (s.setSchedule es)) := by
  unfold step
  rw [fetch_cons s h]
  rfl

/-- The tick that ends the window leaves the request pending (60_exceptions.md R208). -/
theorem tickD_pend_of_debounceFires (h : s.debounceFires) : (tickD s).irq.debounce.pend = true := by
  rw [tickD, dtTick_of_fires h]
  rfl

/-- The event does not close an open window: it is no reset and no DT.DISARM. -/
abbrev Event.LeavesWindow (e : Event) : Prop := e ≠ .reset ∧ e.instr? ≠ some .dtDisarm

/-- Of these events only the debounce tick changes an armed timer: a further DT.ARM does nothing to it
(45_debounce_timer.md R171). -/
theorem Happens.dt_eq_of_armed (he : Happens s e t) (ha : s.dt.state = .armed) (htick : e ≠ .tickD)
    (hall : e.LeavesWindow) : t.dt = s.dt := by
  obtain ⟨hreset, hdisarm⟩ := hall
  by_contra hc
  rcases he.write_or_tick hreset with ⟨i, u, hi, hw, rfl⟩ | hown
  · rcases hw.dt_owner hc with rfl | rfl
    · cases hw with
      | dtArm hs => exact hs ha
      | dtArmAgain _ => exact hc rfl
    · exact hdisarm hi
  · exact htick (hown.dt hc)

/-- After `k` debounce ticks the window of a delay of `d1` ticks is open with `d1 - k` to go, as long as there are any.
It says nothing once they are over: a later DT.ARM may then open another window. -/
def State.WindowAt (d1 k : Nat) (s : State) : Prop :=
  k < d1 → s.dt = { state := .armed, cnt := d1 - k, load := d1 }

/-- The open window ends in the `d1`-th tick and in no other. -/
theorem State.WindowAt.fires_iff (h : s.WindowAt d1 k) (hk : k < d1) : s.debounceFires ↔ k + 1 = d1 := by
  rw [State.debounceFires, h hk]
  simp only [true_and]
  omega

theorem State.WindowAt.tickD (h : s.WindowAt d1 k) : (tickD s).WindowAt d1 (k + 1) := by
  intro hk
  have hdt := h (Nat.lt_of_succ_lt hk)
  have hcnt : 1 < s.dt.cnt := by
    rw [hdt]
    exact Nat.lt_sub_of_add_lt (Nat.add_comm k 1 ▸ hk)
  rw [Machine.tickD, dtTick_of_one_lt (by rw [hdt]) hcnt, setDt_dt, hdt, Nat.sub_add_eq]

theorem State.WindowAt.happens (h : s.WindowAt d1 k) (he : Happens s e t) (hall : e.LeavesWindow) :
    t.WindowAt d1 (k + if e = .tickD then 1 else 0) := by
  split
  next htick =>
    subst htick
    cases he
    exact h.tickD
  next htick =>
    intro hk
    have hdt := h hk
    exact (he.dt_eq_of_armed (by rw [hdt]) htick hall).trans hdt

/-- The run of an open window over events that do not close it. -/
theorem State.WindowAt.run (h : s.WindowAt d1 0) (hes : ∀ e ∈ es, e.LeavesWindow) :
    ∃ u, core.run es.length (s.setSchedule es) = .next u ∧ u.WindowAt d1 (es.count .tickD) := by
  have hrun := run_induct (c := .tickD) (I := fun k s => s.WindowAt d1 k)
    (fun _ _ _ h => h) (fun _ _ _ _ hall h he => h.happens he hall) hes h
  rwa [Nat.zero_add] at hrun

/-- DT.ARM of an idle timer: the whole effective delay is to go. -/
theorem State.windowAt_of_dtArm (hw : 1 ≤ s.params.dtW) (hi : s.dt.state = .idle) (ht : exec .dtArm s = .next t)
    (hd1 : d1 = max 1 (min s.cfg.debounce (2 ^ s.params.dtW - 1))) : t.WindowAt d1 0 := by
  obtain rfl := Host.Outcome.next.inj ((exec_dtArm_of_idle hw hi hd1).symm.trans ht)
  exact fun _ => rfl

end Debounce

/-- Settles O39: the arm opens the window of `State.WindowAt`, which no event of the list closes before its delay is
over. -/
theorem oneDebounceWindow : Obligations.OneDebounceWindow := by
  unfold Obligations.OneDebounceWindow
  intro s t es hw hi ht d1 hd1 hes hk
  obtain ⟨u, hu, hwindow⟩ := (State.windowAt_of_dtArm hw hi ht hd1).run hes
  exact ⟨u, hu, hwindow hk, hwindow.fires_iff hk, tickD_pend_of_debounceFires⟩

/-- Settles O36: the two cases of the rule are the two writes of DT.ARM. -/
theorem debounceArm : Obligations.DebounceArm := by
  unfold Obligations.DebounceArm
  exact ⟨fun data => decode_write_of_build rfl data rfl, fun s hw =>
    ⟨fun ha => (Writes.dtArmAgain ha).exec_eq, fun hi _ hd1 => exec_dtArm_of_idle hw hi hd1⟩⟩

/-- Settles O38: the tick of the state without the event, branch by branch. -/
theorem debounceTick : Obligations.DebounceTick := by
  unfold Obligations.DebounceTick
  intro s es hs
  rw [step_tickD hs]
  refine ⟨fun hi => ?_, fun ha h0 h1 => ?_, fun ha h1 => ?_⟩
  · rw [dtTick_of_not_armed (s := s.setSchedule es) (by simp [hi])]
    rfl
  · have hc : 1 < s.dt.cnt := Nat.one_lt_iff_ne_zero_and_ne_one.mpr ⟨h0, h1⟩
    rw [dtTick_of_one_lt (s := s.setSchedule es) ha hc]
    rfl
  · rw [dtTick_of_fires (s := s.setSchedule es) ⟨ha, Nat.le_of_eq h1⟩]
    rfl

end Sys2Proof.Machine

/-! # The system operations (46_system_ops.md R180 to R195) -/

namespace Sys2Proof.Machine

section SystemOperations

variable {s : State} {i : Instr} {src : Src} {b : IrqBits} {loc : Loc} {c : Err}

/-! How a system operation fails: for the state of its source (60_exceptions.md R202) or for its location (R204). -/

theorem exec_of_stateError (hw : i.WellFormed s.params = true) (hr : i.Resolved s.params = true)
    (h : s.stateError i = some c) : exec i s = raise c i s :=
  exec_eq_raise_iff.mpr ((State.errorOf_of_resolved hw hr).trans h)

/-- An operation whose only range check is that of its location. -/
theorem exec_of_nloc_le (hw : i.WellFormed s.params = decide (loc.toNat < s.params.nloc))
    (h : s.params.nloc ≤ loc.toNat) : exec i s = raise .busErr i s :=
  exec_eq_raise_iff.mpr (State.errorOf_of_outOfRange (hw.trans (decide_eq_false (Nat.not_lt_of_le h))))

/-! What it does when it does not fail. -/

/-- A write to the bits of one source changes nothing else. -/
theorem Writes.exec_setIrq (h : Writes s i (s.setIrq (s.irq.set src b))) : ∃ q : Irq,
    exec i s = .next { s with irq := q, answer := ⟨.ok, 0⟩ } ∧ q.get src = b ∧ ∀ k, k ≠ src → q.get k = s.irq.get k :=
  ⟨s.irq.set src b, h.exec_eq, by rw [irq_get_set, if_pos rfl], fun k hk => by rw [irq_get_set, if_neg hk]⟩

theorem exec_cfgSet (k : CfgReg) (v : Word) : exec (.cfgSet k v) s =
    .next { s with cfg := s.cfg.set k (min v.toNat (2 ^ cfgWidth s.params k - 1)), answer := ⟨.ok, 0⟩ } :=
  (Writes.cfgSet k v).exec_eq

theorem exec_cfgGet (k : CfgReg) :
    exec (.cfgGet k) s = .next { s with answer := ⟨.ok, BitVec.ofNat 32 (s.cfg.get k)⟩ } := rfl

theorem readLoc_of_lt (h : loc.toNat < s.params.nloc) (v : Port) :
    readLoc i loc v s = .next { s with answer := ⟨.ok, v.setWidth 32⟩ } := if_neg (Nat.not_le_of_lt h)

/-- The `src` field of a packed word (30_encoding.md R71, format `WS`). -/
theorem fieldSrc_of_pack (off : BitVec 12) (data : Word) :
    (Xact.pack 2 1 off data).fieldSrc = Src.ofBits (data.extractLsb' 0 2) := by
  rw [fieldSrc_eq, data_pack]

theorem IrqBits.line_eq_false_iff :
    b.line = false ↔ b.pend = false ∨ b.reg = false ∨ b.inserv = true := by
  rw [← Bool.not_eq_true, b.line_eq_true_iff]
  simp only [not_and_or, Bool.not_eq_true, Bool.not_eq_false]

end SystemOperations

/-- Settles O51: the write of CB.REGISTER needs a source not yet registered, and a registered one is its only cause to
fail. -/
theorem callbackRegistration : Obligations.CallbackRegistration := by
  unfold Obligations.CallbackRegistration
  refine ⟨fun src data => ⟨decode_encode (.cbRegister src data), ?_⟩,
    fun s src handle => ⟨fun hreg => ?_, fun hreg => ?_, rfl⟩⟩
  · exact (decode_read_data _ _).trans (decode_encode (.cbRead src))
  · exact exec_of_stateError rfl rfl (if_pos hreg)
  · exact (Writes.cbRegister src handle hreg).exec_setIrq

/-- Settles O52: the line is high exactly when the source is pending, registered and not in service
(`IrqBits.line_eq_true_iff`). -/
theorem interruptHandshake : Obligations.InterruptHandshake := by
  unfold Obligations.InterruptHandshake
  refine ⟨fun data => ⟨?_, ?_⟩, fun s src => ⟨fun hpend hreg hinserv => ?_, fun hlow => ?_, fun hinserv => ?_,
    fun hinserv => ?_⟩⟩
  · exact decode_write_of_build (i := .irqTake _) rfl data (congrArg Instr.irqTake (fieldSrc_of_pack ..))
  · exact decode_write_of_build (i := .irqDone _) rfl data (congrArg Instr.irqDone (fieldSrc_of_pack ..))
  · exact (Writes.irqTake src ((IrqBits.line_eq_true_iff _).mpr ⟨hpend, hreg, hinserv⟩)).exec_setIrq
  · have hline : (s.irq.get src).line = false := IrqBits.line_eq_false_iff.mpr hlow
    exact exec_of_stateError rfl rfl (if_neg (Bool.eq_false_iff.mp hline))
  · exact (Writes.irqDone src hinserv).exec_setIrq
  · exact exec_of_stateError rfl rfl (if_neg (Bool.eq_false_iff.mp hinserv))

/-- Settles O53: `exec_cfgSet` and `exec_cfgGet` at the four registers, whose widths `cfgWidth` gives. -/
theorem configurationRegisters : Obligations.ConfigurationRegisters := by
  unfold Obligations.ConfigurationRegisters
  refine ⟨fun k data => ⟨decode_encode (.cfgSet k data), ?_⟩, fun s v => ⟨exec_cfgSet .pwmOff v, exec_cfgSet .pwmMax v,
    exec_cfgSet .pwmMin v, exec_cfgSet .debounce v, exec_cfgGet .pwmOff, exec_cfgGet .pwmMax, exec_cfgGet .pwmMin,
    exec_cfgGet .debounce⟩⟩
  exact (decode_read_data _ _).trans (decode_encode (.cfgGet k))

/-- Settles O54: the mask stored is `portBits` of the operand, whose bits `portBits_bit` gives. -/
theorem invertMasks : Obligations.InvertMasks := by
  unfold Obligations.InvertMasks
  refine ⟨fun loc data => ⟨decode_encode (.invSet loc data), ?_⟩, fun s loc m => ⟨fun hout => ?_, fun hin => ?_⟩⟩
  · exact (decode_read_data _ _).trans (decode_encode (.invGet loc))
  · exact ⟨exec_of_nloc_le rfl hout, exec_of_nloc_le rfl hout⟩
  · exact ⟨⟨portBits s.params m, fun b hb => portBits_bit s.params m hb, (Writes.invSet loc m hin).exec_eq⟩,
      readLoc_of_lt hin _⟩

/-- Settles O55: both are reads that cannot fail, and a read changes the answer only. -/
theorem errorRecordReads : Obligations.ErrorRecordReads := by
  unfold Obligations.ErrorRecordReads
  refine ⟨fun data => ?_, fun s => ⟨rfl, rfl⟩⟩
  simp only [decode_read_data]
  exact ⟨decode_encode .errStatus, decode_encode .errInfo⟩

/-- Settles O56: the five views are reads of a location, and the bits of the pin levels are those of `pinlvl_bit`. -/
theorem rawPortViews : Obligations.RawPortViews := by
  unfold Obligations.RawPortViews
  refine ⟨fun loc data => ?_, fun s loc => ⟨fun hout i hi => ?_, fun hin => ?_⟩⟩
  · simp only [decode_read_data]
    exact ⟨decode_encode (.rawDir loc), decode_encode (.rawOut loc), decode_encode (.rawIn loc),
      decode_encode (.rawPue loc), decode_encode (.rawPcmsk loc)⟩
  · have hw : i.WellFormed s.params = decide (loc.toNat < s.params.nloc) := by
      simp only [List.mem_cons, List.not_mem_nil, or_false] at hi
      rcases hi with rfl | rfl | rfl | rfl | rfl <;> rfl
    exact exec_of_nloc_le hw hout
  · refine ⟨readLoc_of_lt hin _, readLoc_of_lt hin _, readLoc_of_lt hin _, readLoc_of_lt hin _,
      (s.pinlvl loc).setWidth 32, readLoc_of_lt hin _, fun b hb => ?_⟩
    rw [BitVec.getLsbD_setWidth, decide_eq_true hb, Bool.true_and, pinlvl_bit]

end Sys2Proof.Machine

/-! # Firing and requests (60_exceptions.md R208, R216) -/

namespace Sys2Proof.Machine

section Requests

variable {s t u : State} {i : Instr} {e : Event} {src q : Src}

theorem fire_get_self (src : Src) (s : State) : (fire src s).irq.get src = { s.irq.get src with pend := true } := by
  rw [fire_irq, irq_get_setPend, if_pos rfl]

theorem fire_get_of_ne (hq : q ≠ src) (s : State) : (fire src s).irq.get q = s.irq.get q := by
  rw [fire_irq, irq_get_setPend, if_neg hq]

theorem fire_err_info (src : Src) (s : State) : (fire src s).err.info = s.err.info := by
  rw [fire_err, stickIf_info, stickIf_info]

/-- The sticky bits after a fire: those set before, the overrun of a request still pending (60_exceptions.md R215) and
`NOCB`. -/
theorem fire_sticky (src : Src) (s : State) {n : Nat} (hn : n < 10) :
    (fire src s).err.status.getLsbD n = true ↔ s.err.status.getLsbD n = true ∨
      (n = overrunBit src ∧ (s.irq.get src).pend = true) ∨ (n = nocbBit ∧ (s.irq.get src).reg = false) := by
  rw [BitVec.getLsbD_eq_getElem hn, BitVec.getLsbD_eq_getElem hn, fire_err, stickIf_bit, stickIf_bit]
  simp [or_assoc, and_comm]

/-! A request is new only where its source fires. -/

/-- A fire makes no request but its own. -/
theorem fire_pend (h : ((fire q s).irq.get src).pend = true) : (s.irq.get src).pend = true ∨ src = q := by
  by_cases hq : src = q
  · exact .inr hq
  · exact .inl (fire_get_of_ne hq s ▸ h)

/-- New bits of one source that make no request, make none. -/
theorem setIrq_pend {b : IrqBits} (h : ((s.setIrq (s.irq.set q b)).irq.get src).pend = true)
    (hb : b.pend = true → (s.irq.get q).pend = true) : (s.irq.get src).pend = true := by
  rw [setIrq_irq, irq_get_set] at h
  split at h
  next hq => exact hq ▸ hb h
  next => exact h

theorem cancel_pend (h : ((cancel q s).irq.get src).pend = true) : (s.irq.get src).pend = true :=
  setIrq_pend (b := { s.irq.get q with pend := false }) h nofun

theorem writePort_pend {loc : Loc} {r : PortRegs} (h : ((writePort s loc r).irq.get src).pend = true) :
    (s.irq.get src).pend = true ∨ src = .change := by
  rcases writePort_cases s loc r with hw | hw <;> rw [hw] at h
  · exact fire_pend h
  · exact .inl h

theorem ptTick_pend (h : ((ptTick s).irq.get src).pend = true) :
    (s.irq.get src).pend = true ∨ (src = .pulse ∧ s.pulseFires) := by
  rcases ptTick_cases s with ⟨_, ht⟩ | ⟨_, _, ht⟩ | ⟨_, _, _, ht⟩ | ⟨hf, ht⟩ <;> rw [ht] at h
  · exact .inl h
  · exact .inl h
  · exact .inl h
  · exact (fire_pend h).imp_right fun hsrc => ⟨hsrc, hf⟩

theorem rtTick_pend (h : ((rtTick s).irq.get src).pend = true) :
    (s.irq.get src).pend = true ∨ (src = .reset ∧ s.resetFires) := by
  rcases rtTick_cases s with ⟨_, ht⟩ | ⟨_, _, ht⟩ | ⟨_, _, _, ht⟩ | ⟨hf, ht⟩ <;> rw [ht] at h
  · exact .inl h
  · exact .inl h
  · exact .inl h
  · exact (fire_pend h).imp_right fun hsrc => ⟨hsrc, hf⟩

theorem dtTick_pend (h : ((dtTick s).irq.get src).pend = true) :
    (s.irq.get src).pend = true ∨ (src = .debounce ∧ s.debounceFires) := by
  rcases dtTick_cases s with ⟨_, ht⟩ | ⟨_, _, ht⟩ | ⟨hf, ht⟩ <;> rw [ht] at h
  · exact .inl h
  · exact .inl h
  · exact (fire_pend h).imp_right fun hsrc => ⟨hsrc, hf⟩

theorem vstTick_irq (s : State) : (vstTick s).irq = s.irq := by
  rcases vstTick_cases s with ⟨_, h⟩ | ⟨_, h⟩ <;> rw [h]
  exact setVst_irq s _

theorem padEvent_pend {loc : Loc} {v : BitVec 16} (h : ((padEvent loc v s).irq.get src).pend = true) :
    (s.irq.get src).pend = true ∨ src = .change := by
  rcases padEvent_cases s loc v with ⟨_, hp⟩ | ⟨_, hp | hp⟩ <;> rw [hp] at h
  · exact .inl h
  · exact fire_pend h
  · exact .inl h

/-- Which source an event may request in the state it finds: a timer's in the tick in which that timer expires, CHANGE
at any time. -/
inductive Raises (s : State) : Event → Src → Prop
  | pulse : s.pulseFires → Raises s .tickT .pulse
  | reset : s.resetFires → Raises s .tickT .reset
  | debounce : s.debounceFires → Raises s .tickD .debounce
  | change (e : Event) : Raises s e .change

theorem Raises.of_eq_change (h : src = .change) : Raises s e src := h ▸ .change e

theorem Raises.of_setSchedule {es : List Event} (h : Raises (s.setSchedule es) e src) : Raises s e src := by
  cases h with
  | pulse hf => exact .pulse hf
  | reset hf => exact .reset hf
  | debounce hf => exact .debounce hf
  | change => exact .change e

/-- The Pulse Timer's part leaves what the Reset Timer's match depends on. -/
theorem resetFires_ptTick : (ptTick s).resetFires ↔ s.resetFires := by
  obtain ⟨hrt, hparams, -⟩ := ptTick_keeps s
  rw [State.resetFires, hrt, hparams]

/-- Of the writes that answer `OK` only the port writes make a request, and only that of CHANGE. -/
theorem Writes.pend (hw : Writes s i u) (h : (u.irq.get src).pend = true) :
    (s.irq.get src).pend = true ∨ src = .change := by
  cases hw with
  | gpInit => exact writePort_pend h
  | gpWrite => exact writePort_pend h
  | gpWritePin => exact writePort_pend h
  | ptStop => exact .inl (cancel_pend h)
  | rtDisarm => exact .inl (cancel_pend h)
  | dtDisarm => exact .inl (cancel_pend h)
  | gpChangeIntLast => exact .inl (cancel_pend h)
  | cbRegister => exact .inl (setIrq_pend h id)
  | irqTake => exact .inl (setIrq_pend h nofun)
  | irqDone => exact .inl (setIrq_pend h id)
  | _ => exact .inl h

/-- A request pending after an event was pending before it, or is one the event may make. -/
theorem Happens.pend (he : Happens s e t) (h : (t.irq.get src).pend = true) :
    (s.irq.get src).pend = true ∨ Raises s e src := by
  cases he with
  | fails x y c => exact .inl h
  | reads x v => exact .inl h
  | writes x _ hw => exact (hw.pend h).imp_right Raises.of_eq_change
  | tickT =>
    rcases rtTick_pend h with hpt | ⟨rfl, hf⟩
    · rcases ptTick_pend hpt with hs | ⟨rfl, hf⟩
      · exact .inl hs
      · exact .inr (.pulse hf)
    · exact .inr (.reset (resetFires_ptTick.mp hf))
  | tickV => exact .inl (vstTick_irq s ▸ h)
  | tickD =>
    rcases dtTick_pend h with hs | ⟨rfl, hf⟩
    · exact .inl hs
    · exact .inr (.debounce hf)
  | pad loc v => exact (padEvent_pend h).imp_right Raises.of_eq_change
  | reset => cases src <;> cases h

/-- A request that a step makes is one that its event may make. -/
theorem step_raises (hstep : step s = .next t) (hs : (s.irq.get src).pend = false) (ht : (t.irq.get src).pend = true) :
    ∃ e, s.schedule.head? = some e ∧ Raises s e src := by
  cases hsc : s.schedule with
  | nil =>
    rw [step_idle hsc hstep, hs] at ht
    cases ht
  | cons e es =>
    rcases (step_happens hsc hstep).pend ht with h | h
    · exact absurd (hs.symm.trans h) Bool.false_ne_true
    · exact ⟨e, rfl, h.of_setSchedule⟩

end Requests

/-- Settles O19: the pending bit and the sticky bits, one lemma each; `fire` writes the interrupt state and the error
record only. -/
theorem fireRecordsRequest : Obligations.FireRecordsRequest := by
  unfold Obligations.FireRecordsRequest
  exact fun src s => ⟨rfl, fire_get_self src s, fun q hq => fire_get_of_ne hq s, fire_err_info src s,
    fun n hn => fire_sticky src s hn⟩

/-- Settles O17: each cancel is one write of `Writes`, and a new request is one that the event may make
(`step_raises`). -/
theorem cancelledRequestStaysCancelled : Obligations.CancelledRequestStaysCancelled := by
  unfold Obligations.CancelledRequestStaysCancelled
  refine fun s => ⟨⟨_, Writes.ptStop.exec_eq, rfl, rfl⟩, ⟨_, Writes.rtDisarm.exec_eq, rfl, rfl⟩,
    ⟨_, Writes.dtDisarm.exec_eq, rfl, rfl⟩,
    fun t hstep => ⟨fun hs ht => ?_, fun hs ht => ?_, fun hs ht => ?_⟩⟩
  · obtain ⟨e, he, hr⟩ := step_raises (src := .pulse) hstep hs ht
    cases hr with
    | pulse hf => exact ⟨hf, he⟩
  · obtain ⟨e, he, hr⟩ := step_raises (src := .reset) hstep hs ht
    cases hr with
    | reset hf => exact ⟨hf, he⟩
  · obtain ⟨e, he, hr⟩ := step_raises (src := .debounce) hstep hs ht
    cases hr with
    | debounce hf => exact ⟨hf, he⟩

end Sys2Proof.Machine

/-! # The causes of the errors (60_exceptions.md R200 to R205) -/

namespace Sys2Proof.Machine

section ErrorCauses

variable {s t : State} {i : Instr} {c : Err} {x : Xact}

/-- The response of an operation is the error that `State.errorOf` names, if it names one. -/
theorem exec_resp_iff (h : exec i s = .next t) : t.answer.resp = .err c ↔ s.errorOf i = some c := by
  have hresp := exec_responds i s
  rw [h] at hresp
  generalize s.errorOf i = o at hresp
  cases hresp with
  | fails c' => simp
  | answers ht => simp [ht]

/-! What each class of error means for the operation. -/

/-- What makes an operation with operands in range answer `CFG_ERR` (60_exceptions.md R201): a zero period, and a start
without a period. -/
abbrev State.ConfigCause (s : State) (i : Instr) : Prop :=
  (i = .ptConfigure 0 ∧ s.pt.state ≠ .armed) ∨ (i = .ptStart ∧ s.pt.state ≠ .running ∧ s.pt.valid = false)

/-- What makes an operation answer `STATE_ERR` (60_exceptions.md R202): it finds its timer or source in the wrong
state. -/
abbrev State.StateCause (s : State) (i : Instr) : Prop :=
  (∃ p, i = .ptConfigure p ∧ s.pt.state = .armed) ∨
  (∃ src h, i = .cbRegister src h ∧ (s.irq.get src).reg = true) ∨
  (∃ src, i = .irqTake src ∧ (s.irq.get src).line = false) ∨
  (∃ src, i = .irqDone src ∧ (s.irq.get src).inserv = false)

/-- `State.stateError`, read as the causes of the spec. -/
theorem State.stateError_eq_some_iff : s.stateError i = some c ↔
    (c = .cfgErr ∧ s.ConfigCause i) ∨ (c = .stateErr ∧ s.StateCause i) := by
  rw [State.ConfigCause, State.StateCause, eq_comm (a := c), eq_comm (a := c)]
  cases i with
  | ptConfigure p =>
    rw [State.stateError_ptConfigure]
    split
    next ha => simp [ha]
    next ha => simp [ha, and_comm]
  | ptStart =>
    rw [State.stateError_ptStart]
    split
    next hr => simp [hr]
    next hr => simp [hr, and_comm]
  | cbRegister src handle => simp [State.stateError_cbRegister, and_comm]
  | irqTake src => simp [State.stateError_irqTake, and_comm]
  | irqDone src => simp [State.stateError_irqDone, and_comm]
  | _ => exact iff_of_false nofun (by simp)

/-- An operation that can fail for the state of the block has no address operand. -/
theorem State.inRange_of_stateError (h : s.stateError i = some c) :
    i.WellFormed s.params = true ∧ i.Resolved s.params = true := by
  rcases State.stateError_eq_some_iff.mp h with ⟨-, hi⟩ | ⟨-, hi⟩
  · rcases hi with ⟨rfl, -⟩ | ⟨rfl, -⟩ <;> exact ⟨rfl, rfl⟩
  · rcases hi with ⟨p, rfl, -⟩ | ⟨src, handle, rfl, -⟩ | ⟨src, rfl, -⟩ | ⟨src, rfl, -⟩ <;> exact ⟨rfl, rfl⟩

/-- The three causes of an error, which exclude each other. -/
theorem State.errorOf_eq_some_iff : s.errorOf i = some c ↔
    (c = .busErr ∧ i.WellFormed s.params = false) ∨
    (c = .badDesc ∧ i.WellFormed s.params = true ∧ i.Resolved s.params = false) ∨ s.stateError i = some c := by
  constructor
  · intro h
    cases hw : i.WellFormed s.params with
    | false =>
      rw [State.errorOf_of_outOfRange hw] at h
      exact .inl ⟨(Option.some.inj h).symm, rfl⟩
    | true =>
      cases hr : i.Resolved s.params with
      | false =>
        rw [State.errorOf_of_unresolved hw hr] at h
        exact .inr (.inl ⟨(Option.some.inj h).symm, rfl, rfl⟩)
      | true => exact .inr (.inr (State.errorOf_of_resolved hw hr ▸ h))
  · rintro (⟨rfl, hw⟩ | ⟨rfl, hw, hr⟩ | h)
    · exact State.errorOf_of_outOfRange hw
    · exact State.errorOf_of_unresolved hw hr
    · obtain ⟨hw, hr⟩ := State.inRange_of_stateError h
      exact (State.errorOf_of_resolved hw hr).trans h

/-! Class by class: `BUS_ERR` of a legal operation is for its address operand (R204), `BAD_DESC` for its descriptor
(R203). -/

theorem State.errorOf_eq_busErr_iff : s.errorOf i = some .busErr ↔ i.WellFormed s.params = false := by
  simp [State.errorOf_eq_some_iff, State.stateError_eq_some_iff]

theorem State.errorOf_eq_badDesc_iff :
    s.errorOf i = some .badDesc ↔ i.WellFormed s.params = true ∧ i.Resolved s.params = false := by
  simp [State.errorOf_eq_some_iff, State.stateError_eq_some_iff]

theorem State.errorOf_eq_cfgErr_iff : s.errorOf i = some .cfgErr ↔ s.ConfigCause i := by
  simp [State.errorOf_eq_some_iff, State.stateError_eq_some_iff]

theorem State.errorOf_eq_stateErr_iff : s.errorOf i = some .stateErr ↔ s.StateCause i := by
  simp [State.errorOf_eq_some_iff, State.stateError_eq_some_iff]

/-! What the invariant adds (10_state.md R12): an armed timer has a period. -/

theorem PulseState.ne_armed_iff {p : PulseState} : p ≠ .armed ↔ p = .idle ∨ p = .running := by
  cases p <;> simp

theorem State.Inv.start_without_period_iff (h : s.Inv) :
    s.pt.state ≠ .running ∧ s.pt.valid = false ↔ s.pt.state = .idle ∧ s.pt.valid = false := by
  obtain ⟨-, -, harmed, -⟩ := h.pt
  cases hp : s.pt.state with
  | idle => simp
  | armed => simp [harmed hp]
  | running => simp

/-! Words that decode to no operation, and the word that a failure records. -/

/-- A word is illegal exactly for its size, its alignment or its offset and direction (30_encoding.md R73 steps 1
and 2). -/
theorem decode_eq_error_iff : (∃ c, decode x = .error c) ↔
    x.sz ≠ 2 ∨ x.off.extractLsb' 0 2 ≠ 0 ∨ ∀ r ∈ opMap, x &&& r.mask ≠ r.pattern := by
  unfold decode
  split
  next hs => exact iff_of_true ⟨_, rfl⟩ (.inl hs)
  next hs =>
  split
  next ho => exact iff_of_true ⟨_, rfl⟩ (.inr (.inl ho))
  next ho =>
  split
  next hr =>
    refine iff_of_true ⟨_, rfl⟩ (.inr (.inr fun r hmem hsel => ?_))
    rw [selectRow_eq_some_iff.mpr ⟨hmem, hsel⟩] at hr
    cases hr
  next r hr =>
    obtain ⟨hmem, hsel⟩ := selectRow_eq_some_iff.mp hr
    refine iff_of_false nofun ?_
    rintro (h | h | h)
    · exact hs h
    · exact ho h
    · exact h r hmem hsel

/-- What a failure records of an operation's own word is what it records of any word that decodes to the operation
(`encodeRecoversHeader`). -/
theorem fail_encode (h : decode x = .ok i) : fail c (encode i) s = fail c x s := by
  obtain ⟨hsz, hwr, hoff⟩ := encodeRecoversHeader x i h
  simp only [fail, ErrRecord.record, errInfoOf, hsz, hwr, hoff]

/-- A transaction that answers with an error has failed with it, and nothing else has happened. -/
theorem bus_fails (h : bus x s = .next t) (hc : t.answer.resp = .err c) : t = fail c x s := by
  cases hd : decode x with
  | ok i =>
    rw [bus_of_decode_ok hd] at h
    have hraise : exec i s = raise c i s := exec_eq_raise_iff.mpr ((exec_resp_iff h).mp hc)
    rw [← fail_encode hd]
    exact Host.Outcome.next.inj (h.symm.trans hraise)
  | error d =>
    rw [bus_of_decode_error hd] at h
    cases h
    cases hc
    rfl

end ErrorCauses

/-- Settles O7: an illegal word has one of the first three causes (`decode_eq_error_iff`), and a legal operation answers
`BUS_ERR` for its address operand only. -/
theorem busErrorExactlyWhenIllegal : Obligations.BusErrorExactlyWhenIllegal := by
  unfold Obligations.BusErrorExactlyWhenIllegal
  intro s x es hs
  obtain ⟨t, ht⟩ := step_next s
  refine ⟨t, ht, ?_⟩
  rw [step_bus hs] at ht
  rw [← or_assoc, ← or_assoc, or_assoc (a := x.sz ≠ 2), ← decode_eq_error_iff]
  cases hd : decode x with
  | ok i =>
    rw [bus_of_decode_ok hd] at ht
    simp [exec_resp_iff ht, State.errorOf_eq_busErr_iff]
  | error c =>
    rw [bus_of_decode_error hd] at ht
    cases ht
    exact iff_of_true rfl (.inl ⟨c, rfl⟩)

/-- Settles O8: a failing transaction is `fail` (`bus_fails`), with the sticky bit and the code of the class. -/
theorem failureChangesOnlyErrorRecord : Obligations.FailureChangesOnlyErrorRecord := by
  unfold Obligations.FailureChangesOnlyErrorRecord
  intro s t x es c hs hstep hc n code hclass
  rw [bus_fails ((step_bus hs).symm.trans hstep) hc]
  cases c <;> cases hclass <;> rfl

/-- Settles O9: the causes of each class; under the invariant a start without a period is one in Idle. -/
theorem errorCausesComplete : Obligations.ErrorCausesComplete := by
  unfold Obligations.ErrorCausesComplete
  intro s i hinv
  obtain ⟨t, ht⟩ := exec_next i s
  refine ⟨t, ht, ?_, ?_, ?_⟩ <;> rw [exec_resp_iff ht]
  · rw [State.errorOf_eq_cfgErr_iff, State.ConfigCause, PulseState.ne_armed_iff, hinv.start_without_period_iff]
  · exact State.errorOf_eq_stateErr_iff
  · exact State.errorOf_eq_badDesc_iff

end Sys2Proof.Machine

/-! # Main-line and interrupt context (60_exceptions.md R218)

No operation but the three of the handshake reads the in-service bits: setting them before the operation is setting them
after it. -/

namespace Sys2Proof.Machine

/-- The interrupt state with the given in-service bits. -/
def Irq.serving (q : Irq) (a b c d : Bool) : Irq :=
  { pulse := { q.pulse with inserv := a }, reset := { q.reset with inserv := b },
    debounce := { q.debounce with inserv := c }, change := { q.change with inserv := d } }

/-- The state in the context that the given in-service bits make. -/
def State.inContext (a b c d : Bool) (s : State) : State := s.setIrq (s.irq.serving a b c d)

section Context

variable {s : State} {a b c d : Bool} {i : Instr}

theorem Follows.ok {t u : State} (h : u = t.inContext a b c d) : Follows (State.inContext a b c d) (ok t) (ok u) :=
  h ▸ .next

theorem fire_inContext (src : Src) (s : State) :
    fire src (s.inContext a b c d) = (fire src s).inContext a b c d := by
  cases src <;> rfl

theorem cancel_inContext (src : Src) (s : State) :
    cancel src (s.inContext a b c d) = (cancel src s).inContext a b c d := by
  cases src <;> rfl

theorem pcDetect_inContext (loc : Loc) (old new : Port) (s : State) :
    pcDetect loc old new (s.inContext a b c d) = (pcDetect loc old new s).inContext a b c d := by
  rcases pcDetect_cases s loc old new with ⟨h, hne⟩ | ⟨h, heq⟩ <;> rw [h]
  · exact (if_pos hne).trans (fire_inContext .change s)
  · exact if_neg (not_not_intro heq)

theorem writePort_inContext (loc : Loc) (r : PortRegs) (s : State) :
    writePort (s.inContext a b c d) loc r = (writePort s loc r).inContext a b c d :=
  pcDetect_inContext loc _ _ (s.setPort loc r)

/-! The operations that branch, or that write the interrupt state. -/

theorem readLoc_inContext (i : Instr) (loc : Loc) (v : Port) :
    Follows (State.inContext a b c d) (readLoc i loc v s) (readLoc i loc v (s.inContext a b c d)) :=
  .ite .next .next

theorem readWindow_inContext (i : Instr) (desc : DescIdx) (word : Descriptor → Word) :
    Follows (State.inContext a b c d) (readWindow i desc word s) (readWindow i desc word (s.inContext a b c d)) :=
  .ite .next .next

/-- A descriptor check that both make alike (41_gpio_engine.md R100). -/
theorem Follows.check {f : State → State} {o o' : Out} {k k' : Descriptor → Out} (m : Option Descriptor)
    (hnone : Follows f o o') (hsome : ∀ x, Follows f (k x) (k' x)) :
    Follows f (match m with | none => o | some x => k x) (match m with | none => o' | some x => k' x) := by
  cases m with
  | none => exact hnone
  | some x => exact hsome x

/-- The end of GP.CHANGE_INT (41_gpio_engine.md R107). -/
theorem withdraw_inContext (s : State) :
    (if noChangeMask (s.inContext a b c d) then cancel .change (s.inContext a b c d) else s.inContext a b c d) =
      (if noChangeMask s then cancel .change s else s).inContext a b c d :=
  (apply_ite (State.inContext a b c d) (noChangeMask s = true) (cancel .change s) s).symm

theorem execCbRegister_inContext (src : Src) (handle : Word) :
    Follows (State.inContext a b c d) (execCbRegister src handle s)
      (execCbRegister src handle (s.inContext a b c d)) := by
  cases src <;> exact .ite .next .next

/-- Every operation but those of the interrupt handshake does the same in every context. -/
theorem exec_inContext (hp : i ≠ .irqPending) (hh : ∀ src, i ≠ .irqTake src ∧ i ≠ .irqDone src) (s : State) :
    Follows (State.inContext a b c d) (exec i s) (exec i (s.inContext a b c d)) := by
  cases i with
  | irqPending => exact absurd rfl hp
  | irqTake src => exact absurd rfl (hh src).1
  | irqDone src => exact absurd rfl (hh src).2
  | ptConfigure p => exact .ite .next (.ite .next .next)
  | ptStart => exact .ite .next (.ite .next .next)
  | vstEnable e => exact .ite .next .next
  | dtArm => exact .ite .next .next
  | gpInit desc => exact .check _ .next fun x => .ok (writePort_inContext x.loc _ s)
  | gpWrite desc val => exact .check _ .next fun x => .ok (writePort_inContext x.loc _ s)
  | gpWritePin desc val => exact .check _ .next fun x => .ok (writePort_inContext x.loc _ s)
  | gpSetPullup desc val => exact .check _ .next fun x => .ite .next .next
  | gpChangeInt desc val => exact .check _ .next fun x => .ok (withdraw_inContext (s.watch x (val.getLsbD 0)))
  | gpRead desc => exact .ite .next (.check _ .next fun x => .next)
  | cbRegister src handle => exact execCbRegister_inContext src handle
  | cbRead src => cases src <;> exact .next
  | rawDir loc => exact readLoc_inContext _ loc _
  | rawOut loc => exact readLoc_inContext _ loc _
  | rawIn loc => exact readLoc_inContext _ loc _
  | rawPue loc => exact readLoc_inContext _ loc _
  | rawPcmsk loc => exact readLoc_inContext _ loc _
  | invSet loc m => exact .ite .next .next
  | invGet loc => exact readLoc_inContext _ loc _
  | vpResolve desc => exact readWindow_inContext _ desc _
  | vpPol desc => exact readWindow_inContext _ desc _
  | _ => exact .next

end Context

/-- Settles O59: the function of the statement is `State.inContext`. -/
theorem contextDoesNotMatter : Obligations.ContextDoesNotMatter := by
  unfold Obligations.ContextDoesNotMatter
  intro s a b c d i hp hh f hf
  obtain rfl : f = State.inContext a b c d := funext hf
  exact exec_inContext hp hh s

end Sys2Proof.Machine

/-! # Steps and hazards (70_reset_and_hazards.md R233, R243) -/

namespace Sys2Proof.Machine

section StepPulse

variable {P : Params} {first prog k D : Nat} {s t : State} {d : Word} {es : List Event}

/-- No pulse fire comes before the first of the ticks named. -/
theorem State.PulsesAt.first_le_of_fires (h : s.PulsesAt P first prog k) (hf : s.pulseFires) : first ≤ k + 1 := by
  obtain ⟨n, hn⟩ := h.fires_iff.mp hf
  exact hn ▸ Nat.le_add_right first (n * prog)

theorem State.PulsesAt.fires_of_first (h : s.PulsesAt P first prog k) (hk : k + 1 = first) : s.pulseFires :=
  h.fires_iff.mpr ⟨0, by omega⟩

/-- RT.ARM leaves a running Pulse Timer in its cycle (10_state.md R27). -/
theorem State.Inv.pulsesAt_of_rtArm (h : s.Inv) (hr : s.pt.state = .running) (ht : exec (.rtArm d) s = .next t) :
    t.PulsesAt s.params (s.pt.left s.params) (s.pt.program s.params) 0 := by
  have hw := Writes.rtArm (s := s) d
  obtain rfl := Host.Outcome.next.inj (hw.exec_eq.symm.trans ht)
  refine ⟨(hw.inv h).setAnswer _, rfl, hr, rfl, 0, ?_, .inl rfl⟩
  rw [Nat.zero_add, Nat.zero_mul, Nat.add_zero]
  rfl

/-- An arm shorter than the active period passes the width check (43_reset_timer.md R147). -/
theorem err_of_rtArm (hw : 1 ≤ s.params.rtW)
    (hlt : max 1 (min d.toNat (2 ^ s.params.rtW - 1)) * 2 ^ s.params.rtShift < s.pt.period s.params)
    (ht : exec (.rtArm d) s = .next t) : t.err = s.err := by
  obtain rfl := Host.Outcome.next.inj ((Writes.rtArm d).exec_eq.symm.trans ht)
  have hcheck : widthGePeriod s.params s.pt (rtDelay s.params d) = false := by
    rw [← rtDelay_eq hw] at hlt
    refine Bool.eq_false_iff.mpr fun hge => ?_
    obtain ⟨-, hle⟩ := (widthGePeriod_eq_true_iff _ _ _).mp hge
    exact absurd hlt (Nat.not_lt_of_le hle)
  calc _ = s.err.stickIf (widthGePeriod s.params s.pt (rtDelay s.params d)) widthBit := rfl
    _ = s.err := by
      rw [hcheck]
      rfl

/-- The two timers along one run: the reset fire keeps its tick and the pulse fires keep theirs, over events that leave
both timers alone. -/
theorem State.ResetAt.run_pulsesAt (hreset : s.ResetAt P D 0) (hpulse : s.PulsesAt P first prog 0)
    (hes : ∀ e ∈ es, e.LeavesResetTimer ∧ e.LeavesRunning) :
    ∃ u, core.run es.length (s.setSchedule es) = .next u ∧ u.ResetAt P D (es.count .tickT) ∧
      u.PulsesAt P first prog (es.count .tickT) := by
  obtain ⟨u, hu, hureset⟩ := hreset.run fun e he => (hes e he).1
  obtain ⟨v, hv, hvpulse⟩ := hpulse.run fun e he => (hes e he).2
  obtain rfl : u = v := Host.Outcome.next.inj (hu.symm.trans hv)
  exact ⟨u, hu, hureset, hvpulse⟩

end StepPulse

/-- Settles O30: the reset fire is `D` ticks away and the next pulse fire `left` ticks, which is more than `D`. -/
theorem stepPulseEndsBeforeNextPulse : Obligations.StepPulseEndsBeforeNextPulse := by
  unfold Obligations.StepPulseEndsBeforeNextPulse
  intro s t d h hr D hD hlt ht
  obtain ⟨-, -, ⟨hw, -⟩, -⟩ := h.params.widths
  have hbefore : D < s.pt.left s.params := Nat.lt_sub_of_add_lt (Nat.add_comm _ D ▸ hlt)
  have hshort : D < s.pt.period s.params := Nat.lt_of_le_of_lt (Nat.le_add_left _ _) hlt
  have hreset := hD ▸ State.resetAt_of_rtArm hw ht
  refine ⟨err_of_rtArm hw (hD ▸ hshort) ht, fun es hes => ?_⟩
  obtain ⟨u, hu, hureset, hupulse⟩ := hreset.run_pulsesAt (h.pulsesAt_of_rtArm hr ht) fun e he => by
    obtain ⟨hnoreset, hdisarm, harm, hstop, hconf⟩ := hes e he
    exact ⟨⟨hnoreset, hdisarm, harm⟩, hnoreset, hstop, hconf⟩
  exact ⟨u, hu, hureset.fires_iff, fun hf => Nat.lt_of_lt_of_le hbefore (hupulse.first_le_of_fires hf),
    hupulse.fires_of_first⟩

/-- Settles O10: `step_next` goes through the events; a transaction answers whether legal (`exec_next`) or not. -/
theorem stepNeverStops : Obligations.StepNeverStops := by
  unfold Obligations.StepNeverStops
  exact step_next

end Sys2Proof.Machine
